-- ==== Sys2Proof/Word.lean ====
section
/-! DEFINITION. The plain types of the Orufel 318's quantities (00_scope.md 0.8). Bit vectors are
used only for what travels on the serial line or is a set of bits; every other quantity is a number. -/

namespace Sys2Proof

/-- One byte of a frame, a reply or a report body. -/
abbrev Byte := BitVec 8

/-- A temperature in tenths of a degree Celsius (00_scope.md 0.8). -/
abbrev Temp := Int

/-- A set of event kinds: bit n stands for kind n of TABLE 8-1 (R161). -/
abbrev KindSet := BitVec 16

/-- A timer: `none` is stopped, `some t` runs and expires at the ms time `t` (log 3). -/
abbrev Timer := Option Nat

end Sys2Proof
end

