-- ==== Sys2Proof/Syntax.lean ====
section
/-! DEFINITION. The names of the Orufel 318's states, causes and records, and `Instr`: one constructor
per row of spec/opcode_table.json. The operands of a hand-over are what the handing block hands. -/

namespace Sys2Proof

/-! ### Names of SCAN (Section 1) -/

/-- The six temperature channels, in channel-number order (TABLE 1-1). -/
inductive Channel where
  | fz | ev | im | ff | wt | am
  deriving DecidableEq, Repr

/-- Condition of a channel (TABLE 1-2). -/
inductive ChannelStatus where
  | starting | ok | faultOpen | faultShort
  deriving DecidableEq, Repr

/-- Kind of an out-of-range sample and of a channel fault (R1, R6). -/
inductive FaultKind where
  | openWire | shorted
  deriving DecidableEq, Repr

/-- The six switch inputs, in input-number order (TABLE 1-5). -/
inductive SwitchInput where
  | fzDoor | ffDoor | cmpRun | paddle | binBeam | rakeHome
  deriving DecidableEq, Repr

/-! ### Names of WPU (Section 2) -/

/-- The two claimants of the water path (R20). -/
inductive Claimant where
  | ice | disp
  deriving DecidableEq, Repr

/-- State of a claim at WPU (TABLE 2-1). -/
inductive ClaimState where
  | none | waiting | granted
  deriving DecidableEq, Repr

/-- A claimant's own view of its claim (R95, R107). -/
inductive ClaimView where
  | none | waiting | granted | withdrawing
  deriving DecidableEq, Repr

/-- State of the water path (R19). -/
inductive PathState where
  | idle | opened | settling
  deriving DecidableEq, Repr

/-- Cause of a coil's close (TABLE 2-2). -/
inductive CloseCause where
  | closePoint | released | noFlow | preempted | sag
  deriving DecidableEq, Repr

/-- Filter status (R37). -/
inductive FilterStatus where
  | ok | due | expired
  deriving DecidableEq, Repr

/-! ### Names of FEST and DFC (Sections 3 and 4) -/

/-- Ambient band (TABLE 3-3). -/
inductive Band where
  | low | mid | high | notOk
  deriving DecidableEq, Repr

/-- Reason of a FEST defrost request (R50). -/
inductive FestReason where
  | threshold | backstop
  deriving DecidableEq, Repr

/-- State of the defrost controller (R58). -/
inductive DefrostState where
  | watch | pending | heat | drip | recover
  deriving DecidableEq, Repr

/-- Start reason of a defrost (TABLE 4-3). -/
inductive StartReason where
  | threshold | backstop | manual
  deriving DecidableEq, Repr

/-- End cause of a HEAT phase (R68). -/
inductive HeatEnd where
  | temp | maxTime | fallbackTime | starved | aborted
  deriving DecidableEq, Repr

/-- Cause carried by DEFROST_PHASE (R76). -/
inductive PhaseCause where
  | start (r : StartReason)
  | finish (e : HeatEnd)
  deriving DecidableEq, Repr

/-! ### Names of IMC (Section 5) -/

/-- State of the ice maker (TABLE 5-1). -/
inductive IceState where
  | off | park | freezing | heldFull | harvestHeat | harvestRake | rakeRetryWait | fillWait
  | filling | fillPaused | stalled
  deriving DecidableEq, Repr

/-- The two states in which the rake can fail (R93). -/
inductive RakeState where
  | park | harvestRake
  deriving DecidableEq, Repr

/-- Fill end cause (TABLE 5-2). -/
inductive FillEnd where
  | done | noWater | timeLimit | disabled
  deriving DecidableEq, Repr

/-- The batch record (TABLE 5-2). -/
structure BatchRecord where
  fillTarget : Option Nat
  charged : Nat
  fillEnd : Option FillEnd
  preemptions : Nat
  freezeSeconds : Nat
  creditAtHarvest : Option Nat
  freezeTarget : Option Nat
  forced : Bool
  unknownFill : Bool
  heaterTimeout : Bool
  rakeRetried : Bool
  deriving DecidableEq, Repr

/-! ### Names of DSC (Section 6) -/

/-- Kind of a dispense entry (TABLE 6-1). -/
inductive EntryKind where
  | portion | paddle
  deriving DecidableEq, Repr

/-- State of a dispense entry (TABLE 6-1). -/
inductive EntryState where
  | queued | activeWait | activeFlow
  deriving DecidableEq, Repr

/-- Valve view of a flowing entry (TABLE 6-1). -/
inductive ValveView where
  | opened | closed
  deriving DecidableEq, Repr

/-- Completion cause, and stop cause, of a dispense entry (TABLE 6-3). -/
inductive Completion where
  | done | notChilled | noFlow | runawayLimit | supplySag | userStop | cancelled
  deriving DecidableEq, Repr, Inhabited

/-- What a completion leaves: the last completion record (R114) and the particulars of
DISPENSE_DONE (R122). -/
structure CompletionRecord where
  tag : Byte
  kind : EntryKind
  target : Option Nat
  charged : Nat
  cause : Completion
  warm : Bool
  deriving DecidableEq, Repr

/-! ### Names of LDM (Section 7) -/

/-- The five loads, highest priority first (TABLE 7-1). -/
inductive Load where
  | defHtr | moldHtr | rakeMtr | fillTubeHtr | ductHtr
  deriving DecidableEq, Repr

/-- State of a load-table entry (R126). -/
inductive LoadState where
  | off | waiting | on | shed
  deriving DecidableEq, Repr

/-- State of the supply monitor (R134). -/
inductive Monitor where
  | normal | sag
  deriving DecidableEq, Repr

/-! ### Names of RPU, LNK and the Retained Store (Sections 8, 9 and 10) -/

/-- The reset cause record (R170). -/
structure ResetCauses where
  powerOn : Bool
  supplyLow : Bool
  resetLine : Bool
  linkRequest : Bool
  storeDefaulted : Bool
  deriving DecidableEq, Repr

/-- An event as the raising block hands it to RPU: its kind and its particulars (R142, TABLE 8-2). -/
inductive Event where
  | sensorFault (channel : Channel) (kind : FaultKind)
  | sensorRecovered (channel : Channel) (value : Temp)
  | inputEdge (input : SwitchInput) (asserted : Bool)
  | defrostPhase (new prev : DefrostState) (cause : Option PhaseCause)
  | defrostDone (reason : StartReason) (cause : HeatEnd) (onSeconds wallSeconds : Nat)
      (tAfter : Option Nat)
  | iceState (new prev : IceState)
  | harvestDone (batch : BatchRecord)
  | iceStall (failed : RakeState) (stalls : Nat)
  | noWater (charged : Nat)
  | dispenseDone (record : CompletionRecord)
  | leak (sum : Nat)
  | filterStatus (status : FilterStatus) (used age : Nat)
  | supplySag (shed : Nat)
  | supplyRestored (seconds : Nat)
  | queueHigh (level alarmDrops statusDrops : Nat)
  | partReset (causes : ResetCauses)
  deriving DecidableEq, Repr

/-- The supported bit rates (R155). -/
inductive Rate where
  | r9600 | r19200 | r38400 | r57600
  deriving DecidableEq, Repr

/-- State of the receiver (R155). -/
inductive Receiver where
  | hunt | inBreak | sync | body
  deriving DecidableEq, Repr

/-- An error of a received byte that discards the frame (R155). -/
inductive RxError where
  | noise | framing
  deriving DecidableEq, Repr

/-- The three samples LNK takes of one bit, true for a high line (R155). -/
structure BitSamples where
  first : Bool
  second : Bool
  third : Bool
  deriving DecidableEq, Repr

/-- A byte as it stands on the line after its start bit: the data bits in the order sent, least
significant first, and the stop bit (R155). -/
structure LineByte where
  bit0 : BitSamples
  bit1 : BitSamples
  bit2 : BitSamples
  bit3 : BitSamples
  bit4 : BitSamples
  bit5 : BitSamples
  bit6 : BitSamples
  bit7 : BitSamples
  stop : BitSamples
  deriving DecidableEq, Repr

/-- What is sampled of the sync byte after its low time: the four high data bits and the stop bit
(R156). -/
structure SyncSamples where
  bit4 : BitSamples
  bit5 : BitSamples
  bit6 : BitSamples
  bit7 : BitSamples
  stop : BitSamples
  deriving DecidableEq, Repr

/-- RESULT of a reply (TABLE 9-4). -/
inductive Result where
  | ok | clamped | badLength | badKind | badParam | refusedState | queueFull | unknownTag
  | duplicateTag
  deriving DecidableEq, Repr

/-- The commands and events of the part: one constructor per row of spec/opcode_table.json. -/
inductive Instr where
  -- resets and supplies (Section 10)
  | powerOn
  | supplyLow
  | resetLine
  -- the serial line (Section 9)
  | breakLow
  | breakEnd
  /-- `lowNs` is the measured low time D of the sync byte in nanoseconds. -/
  | syncByte (lowNs : Nat) (rest : SyncSamples)
  /-- The stop bit of the byte `last` on the line in BODY; `bytes` came before it, since the last such
  command (log 27). -/
  | frameCompletion (bytes : List LineByte) (last : LineByte)
  | replyEnd
  -- requests of LNK and of parameters
  | identify
  | linkStatus
  | readResetCause
  | resetPart
  | setParam (id : Byte) (value : BitVec 32)
  | getParam (id : Byte)
  -- requests of SCAN
  | readSensors
  | readWatermarks
  | readInputs
  | setEdge (input code : Byte)
  -- requests of WPU
  | waterStatus
  | filterStatus
  | filterReset (capacity : BitVec 24)
  -- requests of FEST and DFC
  | frostStatus
  | defrostStart
  | defrostAbort
  | defrostStatus
  | readDefrostHistory (index : Byte)
  -- requests of IMC
  | iceEnable
  | iceDisable
  | iceForceHarvest
  | iceStatus
  -- requests of DSC
  | dispensePortion (tag : Byte) (volume : BitVec 16) (options : Byte)
  | dispenseCancel (tag : Byte)
  | dispenseStatus
  -- requests of LDM and RPU
  | loadStatus
  | readEvents
  | clearEvents (kinds : KindSet)
  | setReportEnables (kinds : KindSet) (attn : Byte)
  | fetchReports (count : Byte)
  | readReportCounts
  -- events at SCAN
  /-- `reading` is the converted thermistor reading, before the offset. -/
  | samplePeriod (channel : Channel) (reading : Temp)
  | switchPinChange (input : SwitchInput) (low : Bool)
  | debounceExpiry (input : SwitchInput)
  | countSecond
  -- events at WPU
  | claimMade (claimant : Claimant) (target : Option Nat) (charged preemptions : Nat)
  | claimWithdrawn (claimant : Claimant)
  | claimReleased (claimant : Claimant)
  | meterPulse
  | noFlowExpiry
  | settleWindowExpiry
  | wpuSagEntry
  | wpuSagExit
  | leakMinute
  | leakLatchClear
  | daySecond
  -- events at FEST
  | accumulationMinute
  | fillWaterMillilitre
  | heatEndAtFest (cause : HeatEnd) (onSeconds : Nat)
  | completionAtFest (cause : HeatEnd)
  -- events at DFC
  | defrostRequest (reason : FestReason) (frost : Nat)
  | imcStateAtDfc (state : IceState)
  | heatSecond
  | evAtDfc (status : ChannelStatus) (value : Option Temp)
  | heaterOnAtDfc (isOn : Bool)
  | tHandBack (before after : Nat)
  | dripExpiry
  | recoveryExpiry
  | retryHoldExpiry
  -- events at IMC
  | creditInterval
  | imAtImc (status : ChannelStatus) (value : Option Temp)
  | binBeamAtImc (asserted : Bool)
  | harvestSecond
  | rakeHomeAtImc (asserted : Bool)
  | rakeSecond
  | retryTimerExpiry
  | moldOnAtImc (isOn : Bool)
  | rakeOnAtImc (isOn : Bool)
  | fzAtImc (status : ChannelStatus) (value : Option Temp)
  | dfcStateAtImc (state : DefrostState)
  | grantedAtImc (target : Option Nat)
  | fillSecond
  | closedAtImc (cause : CloseCause)
  | preemptionCountAtImc (count : Nat)
  | settledAtImc (cause : CloseCause) (total : Nat)
  | fillEndAtImc (total : Nat)
  | withdrawnAtImc
  | millilitreAtImc
  | noWaterHoldExpiry
  -- events at DSC
  | spacingExpiry
  | grantedAtDsc
  | millilitreAtDsc
  | flowSecond
  | closedAtDsc (cause : CloseCause)
  | settledAtDsc (cause : CloseCause) (total : Nat)
  | withdrawnAtDsc
  | paddleAssertion
  | paddleRelease
  | recoveryMinute
  -- events at LDM; `rail` is the rail reading in tenths of a percent of nominal
  | loadRequest (load : Load) (duty : Nat)
  | loadRelease (load : Load)
  | dutyChange (load : Load) (duty : Nat)
  | dutyPeriodTimer (load : Load)
  | railBelowEntry (rail : Nat)
  | railAboveExit (rail : Nat)
  | railFallsBack (rail : Nat)
  | exitTimerExpiry
  -- events at RPU, at the Retained Store and at the reset pins
  | eventTaken (event : Event)
  | ageSecond
  | saveRequest
  | writeEnd
  | resetnRise
  | supplyRiseAboveResetLevel
  deriving DecidableEq, Repr

end Sys2Proof
end

