-- ==== Sys2Proof/Config.lean ====
section
/-! DEFINITION. What an implementation fixes, and the free values: what the spec leaves open. A free
value has no body, so nothing can be proved of it. The fixed quantities of the cycle follow, each
with the rule that names it. -/

namespace Sys2Proof.Config

/-- The five values of the Retained Store (R166). -/
structure StoreValues where
  t : Nat
  f : Nat
  used : Nat
  capacity : Nat
  age : Nat
  deriving DecidableEq, Repr

/-- The 16-bit sum check over the five values: the spec does not define the sum (R166, log 8). -/
opaque storeCheck : StoreValues → BitVec 16

/-- A byte whose value the spec does not state, drawn afresh at each use (log 19). -/
opaque freeByte : Nat → Byte

/-- A completion cause the spec does not state, drawn afresh at each use (TABLE 6-2, log 20). -/
opaque freeCompletion : Nat → Completion

/-- Vendor code, part code and silicon revision returned by IDENTIFY (R163). -/
def vendorCode : Nat := 0x2E51
def partCode : Nat := 318
def siliconRevision : Nat := 1

/-- Limits of a temperature (R1). -/
def tempMin : Temp := -400
def tempMax : Temp := 600

/-- Limits of T, and the values a defaulted store loads (R42, R57, R169). -/
def tMin : Nat := 40000
def tMax : Nat := 600000
def tDefault : Nat := 150000
def fMax : Nat := 16777215
def capacityMin : Nat := 100000
def capacityMax : Nat := 2000000
def capacityDefault : Nat := 750000
def usedMax : Nat := 9999999

/-- Saturation limits of counts carried in one and in two bytes. -/
def max8 : Nat := 255
def max16 : Nat := 65535

/-- HEAT limits (TABLE 4-2). -/
def heatMax : Nat := 2400
def fallbackTime : Nat := 1200
def wallCap : Nat := 4800

/-- Fan restart temperature (R70). -/
def fanRestartTemp : Temp := -50

/-- Harvest temperatures and heater limits (R88, R91). -/
def harvestColdTemp : Temp := -100
def harvestWarmTemp : Temp := 10
def harvestHeatMax : Nat := 240
def harvestHeatNotOk : Nat := 120

/-- Rake limits in ON-seconds (R85, R92). -/
def rakeLeaveLimit : Nat := 3
def rakeLimit : Nat := 20

/-- Fill limit in seconds, least useful fill, and the remainder that ends a paused fill
(R97, R98, R26). -/
def fillLimit : Nat := 20
def noWaterMinimum : Nat := 20
def resumeMinimum : Nat := 5

/-- Dispense queue length, portion range and valve-open limit of a portion (R107, R108, R112). -/
def dispenseSlots : Nat := 4
def portionMin : Nat := 20
def portionMax : Nat := 2000
def portionLimit : Nat := 120

/-- Tank limits (R120). -/
def tankCold : Temp := 40
def tankWarm : Temp := 100

/-- Rail levels in tenths of a percent of nominal (R134). -/
def railEntry : Nat := 850
def railExit : Nat := 900

/-- Report queue size and records per fetch (R148, R150). -/
def reportSlots : Nat := 32
def fetchMax : Nat := 4

/-- Interval lengths in ms. -/
def second : Nat := 1000
def minute : Nat := 60000
/-- R32. -/
def noFlowMs : Nat := 5000
/-- R25. -/
def settleMs : Nat := 1000
/-- R23: the wait that lets ICE go first. -/
def starvationMs : Nat := 120000
/-- R69. -/
def recoveryMs : Nat := 480000
/-- R73. -/
def retryHoldMs : Nat := 1800000
/-- R86. -/
def creditMs : Nat := 10000
/-- R93. -/
def rakeRetryMs : Nat := 60000
/-- R98. -/
def noWaterMs : Nat := 600000
/-- R109. -/
def spacingMs : Nat := 2000
/-- R132. -/
def dutyPeriodMs : Nat := 10000
/-- R134. -/
def exitMs : Nat := 2000
/-- R167: a write ends within this time (log 9). -/
def writeMs : Nat := 50

/-- Debounce times (TABLE 1-5). -/
def debounceMs : SwitchInput → Nat
  | .binBeam => 10000
  | .fzDoor | .ffDoor | .cmpRun | .paddle | .rakeHome => 50

end Sys2Proof.Config
end

