-- ==== Sys2Proof/WellFormed.lean ====
section
/-! DEFINITION. Which command terms a sender can send: operands within the ranges the spec gives them.
A command that fails the check names no event of the part; the meanings do not test it (log 36). -/

namespace Sys2Proof

/-- A value lies in `lo..hi`, both ends included (00_scope.md 0.8). -/
def inRange (lo hi x : Nat) : Bool := decide (lo ≤ x) && decide (x ≤ hi)

/-- A formed value of a channel (R2). -/
def Temp.formable (v : Temp) : Bool := decide (Config.tempMin ≤ v) && decide (v ≤ Config.tempMax)

/-- A channel's status and value as SCAN hands them (R8): an OK channel has a value, and a value lies
in the range of temperatures. -/
def handOverWellFormed (status : ChannelStatus) (value : Option Temp) : Bool :=
  match value with
  | some v => Temp.formable v
  | none => decide (status ≠ .ok)

/-- A claim as its claimant supplies it (TABLE 2-1): ICE with the fill target and up to two
preemptions, DISP with a portion target or none and nothing charged. -/
def claimWellFormed (who : Claimant) (target : Option Nat) (charged preemptions : Nat) : Bool :=
  match who, target with
  | .ice, some t => inRange 60 180 t && decide (preemptions ≤ 2)
  | .ice, none => false
  | .disp, some t =>
    inRange Config.portionMin Config.portionMax t && decide (charged = 0 ∧ preemptions = 0)
  | .disp, none => decide (charged = 0 ∧ preemptions = 0)

/-- The particulars of an event lie in their ranges (TABLE 8-2 and the raising blocks' rules). -/
def Event.wellFormed : Event → Bool
  | .sensorFault _ _ | .inputEdge _ _ | .defrostPhase _ _ _ | .iceState _ _ | .partReset _ => true
  | .sensorRecovered _ v => Temp.formable v
  | .defrostDone _ _ on wall tAfter =>
    decide (on ≤ Config.heatMax) && decide (wall ≤ Config.wallCap) &&
      (match tAfter with
       | some t => inRange Config.tMin Config.tMax t
       | none => true)
  | .harvestDone b => decide (b.charged ≤ Config.max16) && decide (b.preemptions ≤ 2)
  | .iceStall _ n => decide (n ≤ Config.max8)
  | .noWater ml => decide (ml < Config.noWaterMinimum)
  | .dispenseDone r => decide (r.charged ≤ Config.max16)
  | .leak n => decide (n ≤ Config.max16)
  | .filterStatus _ used age => decide (used ≤ Config.usedMax) && decide (age ≤ Config.max16)
  | .supplySag n => decide (n ≤ 5)
  | .supplyRestored n => decide (n ≤ Config.max16)
  | .queueHigh level a b =>
    inRange 1 Config.reportSlots level && decide (a ≤ Config.max8) && decide (b ≤ Config.max8)

/-- The operands of a command lie in the ranges the spec gives them. -/
def Instr.wellFormed : Instr → Bool
  | .powerOn | .supplyLow | .resetLine | .resetnRise | .supplyRiseAboveResetLevel => true
  | .breakLow | .breakEnd | .replyEnd => true
  | .syncByte lowNs _ => decide (0 < lowNs)
  | .frameCompletion bytes _ => decide (bytes.length ≤ 67)
  | .identify | .linkStatus | .readResetCause | .resetPart | .setParam _ _ | .getParam _ => true
  | .readSensors | .readWatermarks | .readInputs | .setEdge _ _ => true
  | .waterStatus | .filterStatus | .filterReset _ | .frostStatus => true
  | .defrostStart | .defrostAbort | .defrostStatus | .readDefrostHistory _ => true
  | .iceEnable | .iceDisable | .iceForceHarvest | .iceStatus => true
  | .dispensePortion _ _ _ | .dispenseCancel _ | .dispenseStatus => true
  | .loadStatus | .readEvents | .clearEvents _ | .setReportEnables _ _ => true
  | .fetchReports _ | .readReportCounts => true
  | .samplePeriod _ _ | .switchPinChange _ _ | .debounceExpiry _ | .countSecond => true
  | .claimMade who target charged preemptions => claimWellFormed who target charged preemptions
  | .claimWithdrawn _ | .claimReleased _ | .meterPulse | .noFlowExpiry | .settleWindowExpiry => true
  | .wpuSagEntry | .wpuSagExit | .leakMinute | .leakLatchClear | .daySecond => true
  | .accumulationMinute | .fillWaterMillilitre | .completionAtFest _ => true
  | .heatEndAtFest _ h => decide (h ≤ Config.heatMax)
  | .defrostRequest _ f => decide (f ≤ Config.fMax)
  | .imcStateAtDfc _ | .heatSecond | .heaterOnAtDfc _ => true
  | .evAtDfc status value => handOverWellFormed status value
  | .tHandBack before after =>
    inRange Config.tMin Config.tMax before && inRange Config.tMin Config.tMax after
  | .dripExpiry | .recoveryExpiry | .retryHoldExpiry => true
  | .creditInterval | .binBeamAtImc _ | .harvestSecond | .rakeHomeAtImc _ | .rakeSecond => true
  | .imAtImc status value => handOverWellFormed status value
  | .retryTimerExpiry | .moldOnAtImc _ | .rakeOnAtImc _ | .dfcStateAtImc _ => true
  | .fzAtImc status value => handOverWellFormed status value
  | .grantedAtImc target =>
    match target with
    | some t => inRange 60 180 t
    | none => false
  | .fillSecond | .closedAtImc _ | .settledAtImc _ _ | .fillEndAtImc _ => true
  | .preemptionCountAtImc n => inRange 1 2 n
  | .withdrawnAtImc | .millilitreAtImc | .noWaterHoldExpiry => true
  | .spacingExpiry | .grantedAtDsc | .millilitreAtDsc | .flowSecond | .withdrawnAtDsc => true
  | .closedAtDsc cause => decide (cause ≠ .preempted)
  | .settledAtDsc cause _ => decide (cause ≠ .preempted)
  | .paddleAssertion | .paddleRelease | .recoveryMinute => true
  | .loadRequest _ duty => inRange 1 100 duty
  | .dutyChange .defHtr duty => inRange 50 100 duty
  | .dutyChange _ duty => inRange 1 100 duty
  | .loadRelease _ | .dutyPeriodTimer _ | .exitTimerExpiry => true
  | .railBelowEntry rail => decide (rail < Config.railEntry)
  | .railAboveExit rail => decide (Config.railExit < rail)
  | .railFallsBack rail => decide (rail ≤ Config.railExit)
  | .eventTaken event => event.wellFormed
  | .ageSecond | .saveRequest | .writeEnd => true

end Sys2Proof
end

