-- ==== Sys2Proof/Decode.lean ====
section
/-! DEFINITION. The words of the opcode table, and the request frames of the serial line. No row of
spec/opcode_table.json has bits, so no word of the table spells a command. What the spec does encode
is the request frame (TABLE 9-2, TABLE 9-5): `lookupRequest` reads a KIND and a payload,
`encodeRequest` writes them, `requestBody` writes the bytes that follow SYNC, and `sentByte` writes a
byte as the line carries it. -/

namespace Sys2Proof

/-- The command a word of the opcode table spells: none, because no row gives bits. -/
def decodeTableWord (_nbits _w : Nat) : Option Instr := none

/-- Payload length of a request kind (TABLE 9-5); none for a code that is not in the table. -/
def requestLength (kind : Byte) : Option Nat :=
  match kind.toNat with
  | 0x01 | 0x02 | 0x03 | 0x04 => some 0
  | 0x08 => some 5
  | 0x09 => some 1
  | 0x10 | 0x11 | 0x12 => some 0
  | 0x13 => some 2
  | 0x20 | 0x21 => some 0
  | 0x22 => some 3
  | 0x30 => some 0
  | 0x40 | 0x41 | 0x42 => some 0
  | 0x43 => some 1
  | 0x50 | 0x51 | 0x52 | 0x53 => some 0
  | 0x60 => some 4
  | 0x61 => some 1
  | 0x62 => some 0
  | 0x70 => some 0
  | 0x78 => some 0
  | 0x79 => some 2
  | 0x7A => some 3
  | 0x7B => some 1
  | 0x7C => some 0
  | _ => none

/-- The request a known KIND with a payload of its length stands for (TABLE 9-5); bytes go low byte
first (R161). -/
def parseRequest (kind : Byte) (payload : List Byte) : Option Instr :=
  match kind.toNat, payload with
  | 0x01, [] => some .identify
  | 0x02, [] => some .linkStatus
  | 0x03, [] => some .readResetCause
  | 0x04, [] => some .resetPart
  | 0x08, [id, v0, v1, v2, v3] => some (.setParam id (v3 ++ v2 ++ v1 ++ v0))
  | 0x09, [id] => some (.getParam id)
  | 0x10, [] => some .readSensors
  | 0x11, [] => some .readWatermarks
  | 0x12, [] => some .readInputs
  | 0x13, [input, code] => some (.setEdge input code)
  | 0x20, [] => some .waterStatus
  | 0x21, [] => some .filterStatus
  | 0x22, [c0, c1, c2] => some (.filterReset (c2 ++ c1 ++ c0))
  | 0x30, [] => some .frostStatus
  | 0x40, [] => some .defrostStart
  | 0x41, [] => some .defrostAbort
  | 0x42, [] => some .defrostStatus
  | 0x43, [index] => some (.readDefrostHistory index)
  | 0x50, [] => some .iceEnable
  | 0x51, [] => some .iceDisable
  | 0x52, [] => some .iceForceHarvest
  | 0x53, [] => some .iceStatus
  | 0x60, [tag, v0, v1, options] => some (.dispensePortion tag (v1 ++ v0) options)
  | 0x61, [tag] => some (.dispenseCancel tag)
  | 0x62, [] => some .dispenseStatus
  | 0x70, [] => some .loadStatus
  | 0x78, [] => some .readEvents
  | 0x79, [k0, k1] => some (.clearEvents (k1 ++ k0))
  | 0x7A, [k0, k1, attn] => some (.setReportEnables (k1 ++ k0) attn)
  | 0x7B, [count] => some (.fetchReports count)
  | 0x7C, [] => some .readReportCounts
  | _, _ => none

/-- What LNK finds for an accepted frame's KIND and payload (R159). -/
inductive Lookup where
  | badKind
  | badLength
  | request (i : Instr)
  deriving DecidableEq, Repr

/-- R159: an unknown code, a known code with a wrong LEN, or a request. -/
def lookupRequest (kind : Byte) (payload : List Byte) : Lookup :=
  match requestLength kind with
  | none => .badKind
  | some n =>
    if payload.length = n then
      match parseRequest kind payload with
      | some i => .request i
      | none => .badLength
    else .badLength

/-- Byte `k` of a number, byte 0 the lowest. -/
def byteOf {w : Nat} (x : BitVec w) (k : Nat) : Byte := x.extractLsb' (8 * k) 8

/-- KIND and payload of a request (TABLE 9-5); none for a command that is no request. -/
def encodeRequest : Instr → Option (Byte × List Byte)
  | .identify => some (0x01, [])
  | .linkStatus => some (0x02, [])
  | .readResetCause => some (0x03, [])
  | .resetPart => some (0x04, [])
  | .setParam id value =>
    some (0x08, [id, byteOf value 0, byteOf value 1, byteOf value 2, byteOf value 3])
  | .getParam id => some (0x09, [id])
  | .readSensors => some (0x10, [])
  | .readWatermarks => some (0x11, [])
  | .readInputs => some (0x12, [])
  | .setEdge input code => some (0x13, [input, code])
  | .waterStatus => some (0x20, [])
  | .filterStatus => some (0x21, [])
  | .filterReset capacity =>
    some (0x22, [byteOf capacity 0, byteOf capacity 1, byteOf capacity 2])
  | .frostStatus => some (0x30, [])
  | .defrostStart => some (0x40, [])
  | .defrostAbort => some (0x41, [])
  | .defrostStatus => some (0x42, [])
  | .readDefrostHistory index => some (0x43, [index])
  | .iceEnable => some (0x50, [])
  | .iceDisable => some (0x51, [])
  | .iceForceHarvest => some (0x52, [])
  | .iceStatus => some (0x53, [])
  | .dispensePortion tag volume options =>
    some (0x60, [tag, byteOf volume 0, byteOf volume 1, options])
  | .dispenseCancel tag => some (0x61, [tag])
  | .dispenseStatus => some (0x62, [])
  | .loadStatus => some (0x70, [])
  | .readEvents => some (0x78, [])
  | .clearEvents kinds => some (0x79, [byteOf kinds 0, byteOf kinds 1])
  | .setReportEnables kinds attn => some (0x7A, [byteOf kinds 0, byteOf kinds 1, attn])
  | .fetchReports count => some (0x7B, [count])
  | .readReportCounts => some (0x7C, [])
  | .powerOn | .supplyLow | .resetLine | .resetnRise | .supplyRiseAboveResetLevel => none
  | .breakLow | .breakEnd | .syncByte _ _ | .frameCompletion _ _ | .replyEnd => none
  | .samplePeriod _ _ | .switchPinChange _ _ | .debounceExpiry _ | .countSecond => none
  | .claimMade _ _ _ _ | .claimWithdrawn _ | .claimReleased _ | .meterPulse => none
  | .noFlowExpiry | .settleWindowExpiry | .wpuSagEntry | .wpuSagExit | .leakMinute => none
  | .leakLatchClear | .daySecond | .accumulationMinute | .fillWaterMillilitre => none
  | .heatEndAtFest _ _ | .completionAtFest _ | .defrostRequest _ _ | .imcStateAtDfc _ => none
  | .heatSecond | .evAtDfc _ _ | .heaterOnAtDfc _ | .tHandBack _ _ | .dripExpiry => none
  | .recoveryExpiry | .retryHoldExpiry | .creditInterval | .imAtImc _ _ | .binBeamAtImc _ => none
  | .harvestSecond | .rakeHomeAtImc _ | .rakeSecond | .retryTimerExpiry | .moldOnAtImc _ => none
  | .rakeOnAtImc _ | .fzAtImc _ _ | .dfcStateAtImc _ | .grantedAtImc _ | .fillSecond => none
  | .closedAtImc _ | .preemptionCountAtImc _ | .settledAtImc _ _ | .fillEndAtImc _ => none
  | .withdrawnAtImc | .millilitreAtImc | .noWaterHoldExpiry | .spacingExpiry => none
  | .grantedAtDsc | .millilitreAtDsc | .flowSecond | .closedAtDsc _ | .settledAtDsc _ _ => none
  | .withdrawnAtDsc | .paddleAssertion | .paddleRelease | .recoveryMinute => none
  | .loadRequest _ _ | .loadRelease _ | .dutyChange _ _ | .dutyPeriodTimer _ => none
  | .railBelowEntry _ | .railAboveExit _ | .railFallsBack _ | .exitTimerExpiry => none
  | .eventTaken _ | .ageSecond | .saveRequest | .writeEnd => none

/-- The 8-bit sum of bytes (R157). -/
def byteSum (bytes : List Byte) : Byte := bytes.foldl (· + ·) 0

/-- `bytes` with the CHECK byte that makes their 8-bit sum 0 (TABLE 9-2, TABLE 9-3). -/
def withCheck (bytes : List Byte) : List Byte := bytes ++ [-(byteSum bytes)]

/-- The bytes that follow SYNC in a request frame (TABLE 9-2): LEN, KIND, TAG, payload, CHECK. -/
def requestBody (tag : Byte) (kind : Byte) (payload : List Byte) : List Byte :=
  withCheck ([BitVec.ofNat 8 payload.length, kind, tag] ++ payload)

/-- A bit whose three samples agree on its level (R155). -/
def sentBit (level : Bool) : BitSamples := { first := level, second := level, third := level }

/-- A byte as the line carries it without a disturbance: least significant bit first, and a high stop
bit (R155). -/
def sentByte (b : Byte) : LineByte :=
  { bit0 := sentBit (b.getLsbD 0), bit1 := sentBit (b.getLsbD 1), bit2 := sentBit (b.getLsbD 2),
    bit3 := sentBit (b.getLsbD 3), bit4 := sentBit (b.getLsbD 4), bit5 := sentBit (b.getLsbD 5),
    bit6 := sentBit (b.getLsbD 6), bit7 := sentBit (b.getLsbD 7), stop := sentBit true }

end Sys2Proof
end

