-- ==== Sys2Proof/Machine/State.lean ====
section
/-! DEFINITION. The state of the part as plain data: every piece of state the spec gives each block
(INVENTORY.md, '## State'), the queue of waiting commands, the hand-overs in flight, and
`State.reset`. Times are ms on the model's clock `now`. -/

namespace Sys2Proof.Machine

open Sys2Proof

/-! ### SCAN (Section 1) -/

/-- A channel record (TABLE 1-2), with the channel's offset (R18), its sample period timer (R1) and
the thermistor reading at its input. -/
structure ChannelRec where
  status : ChannelStatus
  window : List Temp
  value : Option Temp
  bad : Nat
  good : Nat
  wmin : Temp
  wmax : Temp
  offset : Temp
  sampleTimer : Timer
  reading : Temp
  deriving DecidableEq, Repr

/-- The six channels (TABLE 1-1). -/
structure Channels where
  fz : ChannelRec
  ev : ChannelRec
  im : ChannelRec
  ff : ChannelRec
  wt : ChannelRec
  am : ChannelRec
  deriving DecidableEq, Repr

/-- A switch input: its pin, its debounced state, its debounce timer and its edge-select code
(R11 to R13). -/
structure SwitchRec where
  pinLow : Bool
  asserted : Bool
  timer : Timer
  edge : BitVec 2
  deriving DecidableEq, Repr

/-- The six switch inputs (TABLE 1-5). -/
structure Switches where
  fzDoor : SwitchRec
  ffDoor : SwitchRec
  cmpRun : SwitchRec
  paddle : SwitchRec
  binBeam : SwitchRec
  rakeHome : SwitchRec
  deriving DecidableEq, Repr

/-- SCAN, with the count second and the three second counters (R14). -/
structure Scan where
  chans : Channels
  switches : Switches
  countTimer : Timer
  fzSeconds : Nat
  ffSeconds : Nat
  cmpSeconds : Nat
  deriving DecidableEq, Repr

/-! ### WPU (Section 2) -/

/-- A claim record (TABLE 2-1). -/
structure Claim where
  state : ClaimState
  since : Option Nat
  target : Option Nat
  charged : Nat
  preemptions : Nat
  deriving DecidableEq, Repr

/-- The grant record (R22, R25). -/
structure Grant where
  holder : Claimant
  target : Option Nat
  charged : Nat
  closePoint : Option Nat
  time : Nat
  cause : Option CloseCause
  deriving DecidableEq, Repr

/-- What WPU has learned of one path: its overrun list, oldest first, and its anticipation (R31). -/
structure PathLearning where
  overruns : List Int
  anticipation : Nat
  deriving DecidableEq, Repr

/-- WPU. `leakBins` is newest first. -/
structure Wpu where
  path : PathState
  sag : Bool
  ice : Claim
  disp : Claim
  grant : Option Grant
  residue : Nat
  iceLearning : PathLearning
  dispLearning : PathLearning
  noFlowTimer : Timer
  settleTimer : Timer
  unclaimed : Nat
  leakBins : List Nat
  leakSum : Nat
  leakLatch : Bool
  leakTimer : Timer
  used : Nat
  capacity : Nat
  age : Nat
  daySeconds : Nat
  dayTimer : Timer
  saveSteps : Nat
  status : FilterStatus
  meterK : Nat
  leakLim : Nat
  ageLim : Nat
  deriving DecidableEq, Repr

/-! ### FEST (Section 3) -/

/-- The last minute record (TABLE 3-2). -/
structure MinuteRecord where
  frozen : Bool
  r : Nat
  df : Nat
  dr : Nat
  w : Nat
  band : Option Band
  kA : Option Nat
  deltaF : Nat
  offer : Option FestReason
  deriving DecidableEq, Repr

/-- FEST (TABLE 3-1) and its parameters (TABLE 3-6). -/
structure Fest where
  f : Nat
  t : Nat
  e : Nat
  fillWater : Nat
  last : Option MinuteRecord
  minuteTimer : Timer
  wLo : Nat
  wMid : Nat
  wHi : Nat
  wFzDoor : Nat
  wFfDoor : Nat
  wFill : Nat
  minGap : Nat
  backstop : Nat
  heatTgt : Nat
  deriving DecidableEq, Repr

/-! ### DFC (Section 4) -/

/-- A defrost record (TABLE 4-3). -/
structure DefrostRecord where
  reason : StartReason
  frost : Nat
  gap : Option Nat
  tBefore : Option Nat
  tAfter : Option Nat
  onSeconds : Option Nat
  wallSeconds : Option Nat
  endCause : Option HeatEnd
  deriving DecidableEq, Repr

/-- DFC. `history` is newest first (R75). -/
structure Dfc where
  state : DefrostState
  cmpInhibit : Bool
  fanEn : Bool
  current : Option DefrostRecord
  history : List DefrostRecord
  completionCount : Nat
  lastCompletion : Option Nat
  onSeconds : Nat
  wallSeconds : Nat
  heaterOn : Bool
  fallback : Bool
  heatTimer : Timer
  dripTimer : Timer
  recoveryTimer : Timer
  holdTimer : Timer
  defTerm : Temp
  dripTime : Nat
  deriving DecidableEq, Repr

/-! ### IMC (Section 5) -/

/-- IMC. -/
structure Imc where
  state : IceState
  batch : Option BatchRecord
  credit : Nat
  fillSeconds : Nat
  heatOnSeconds : Nat
  moldOn : Bool
  rakeOnSeconds : Nat
  rakeOn : Bool
  leftHome : Bool
  disablePending : Bool
  claimView : ClaimView
  failed : Option RakeState
  creditTimer : Timer
  harvestTimer : Timer
  rakeTimer : Timer
  fillTimer : Timer
  retryTimer : Timer
  noWaterTimer : Timer
  harvestCount : Nat
  stallCount : Nat
  fillTgt : Nat
  kFreeze : Nat
  startTemp : Temp
  tubeDuty : Nat
  deriving DecidableEq, Repr

/-! ### DSC (Section 6) -/

/-- A dispense entry (TABLE 6-1). -/
structure Entry where
  tag : Byte
  kind : EntryKind
  target : Option Nat
  chilledOnly : Bool
  state : EntryState
  valve : Option ValveView
  openSeconds : Nat
  stopCause : Option Completion
  charged : Nat
  warm : Bool
  deriving DecidableEq, Repr

/-- DSC. `queue` is oldest first (R107); `paddle` is PADDLE's debounced state as SCAN last handed it
(R12, R114, log 47). -/
structure Dsc where
  queue : List Entry
  claimView : ClaimView
  last : Option CompletionRecord
  c : Nat
  latch : Bool
  paddle : Bool
  spacingTimer : Timer
  flowTimer : Timer
  minuteTimer : Timer
  vTank : Nat
  chillRate : Nat
  paddleMax : Nat
  ductDuty : Nat
  deriving DecidableEq, Repr

/-! ### LDM (Section 7) -/

/-- A running duty period: when it started and the duty it runs with (R132, R133). -/
structure DutyPeriod where
  start : Nat
  duty : Nat
  deriving DecidableEq, Repr

/-- A load-table entry (R126): `driven` is its output. -/
structure LoadEntry where
  state : LoadState
  rated : Nat
  duty : Nat
  driven : Bool
  period : Option DutyPeriod
  deriving DecidableEq, Repr

/-- The load table (TABLE 7-1). -/
structure Loads where
  defHtr : LoadEntry
  moldHtr : LoadEntry
  rakeMtr : LoadEntry
  fillTubeHtr : LoadEntry
  ductHtr : LoadEntry
  deriving DecidableEq, Repr

/-- LDM. `rail` is the load rail in tenths of a percent of nominal. -/
structure Ldm where
  loads : Loads
  budget : Nat
  monitor : Monitor
  exitTimer : Timer
  rail : Nat
  sagCount : Nat
  lastSag : Nat
  deriving DecidableEq, Repr

/-! ### RPU (Section 8) -/

/-- A report record (R146): kind number, age and body. -/
structure Report where
  kind : Nat
  age : Nat
  body : List Byte
  deriving DecidableEq, Repr

/-- RPU. `queue` is oldest first; the free slots are 32 less its length (R148). -/
structure Rpu where
  flags : KindSet
  enables : KindSet
  attnEnable : Bool
  queue : List Report
  alarmDrops : Nat
  statusDrops : Nat
  ageTimer : Timer
  attn : Bool
  reserve : Nat
  attnLevel : Nat
  highLevel : Nat
  deriving DecidableEq, Repr

/-! ### LNK and the Retained Store (Sections 9 and 10) -/

/-- The reply frame being sent, with the rate at which it began (R156, R159). -/
structure Reply where
  rate : Rate
  bytes : List Byte
  deriving DecidableEq, Repr

/-- LNK, with the reset cause record (R170) and the save state (R167): `writing` holds the values
being written, and is absent when the save state is IDLE. -/
structure Lnk where
  rate : Rate
  receiver : Receiver
  rxBuffer : List Byte
  replyInProgress : Bool
  reqTag : Byte
  reply : Option Reply
  replyTimer : Timer
  resetAtReplyEnd : Bool
  framing : Nat
  noise : Nat
  check : Nat
  overrun : Nat
  sync : Nat
  causes : ResetCauses
  writing : Option Config.StoreValues
  writeTimer : Timer
  savePending : Bool
  deriving DecidableEq, Repr

/-- The Retained Store: five values and the check field, absent when erased (R166). -/
structure Store where
  values : Config.StoreValues
  check : Option (BitVec 16)
  deriving DecidableEq, Repr

/-! ### The whole part -/

/-- The state of the part. `pending` is the queue of commands from outside, first in, first out;
`handovers` are the hand-overs the blocks have made and that have not been taken (log 1). -/
structure State where
  pending : List Instr
  handovers : List Instr
  now : Nat
  freeCount : Nat
  resetnLow : Bool
  supplyLow : Bool
  scan : Scan
  wpu : Wpu
  fest : Fest
  dfc : Dfc
  imc : Imc
  dsc : Dsc
  ldm : Ldm
  rpu : Rpu
  lnk : Lnk
  store : Store
  deriving DecidableEq, Repr

/-- Why a step can stop the part with a fault: never. Every fault of the spec is state (a channel
status, a link error count, a refused request, a failed store check), so no constructor is needed,
which is safe: nothing is left out by it. -/
inductive Fault : Type
  deriving DecidableEq, Repr

/-- Why a command has no meaning. -/
inductive Refusal where
  /-- Raised by an arm of `exec` whose command is not modelled; safe. No arm raises it. -/
  | notModelled (mnemonic : String)
  deriving DecidableEq, Repr

/-! ### Each block in its state after reset, its timers stopped

TABLE 1-7, 2-4, 3-8, 4-5, 5-5, 6-5, 7-4, 8-4 and 9-8. The timers that run after a reset start when
start-up ends (R169). -/

/-- R2, R18. -/
def ChannelRec.held (reading : Temp) : ChannelRec :=
  { status := .starting, window := [], value := none, bad := 0, good := 0,
    wmin := Config.tempMax, wmax := Config.tempMin, offset := 0, sampleTimer := none,
    reading := reading }

/-- R11, R13: the pin is an input and keeps its level. -/
def SwitchRec.held (pinLow : Bool) (edge : BitVec 2) : SwitchRec :=
  { pinLow := pinLow, asserted := false, timer := none, edge := edge }

/-- R20. -/
def Claim.held : Claim :=
  { state := .none, since := none, target := none, charged := 0, preemptions := 0 }

/-- R31. -/
def PathLearning.held : PathLearning := { overruns := [], anticipation := 0 }

/-- TABLE 2-4, with the filter values of a defaulted store. -/
def Wpu.held : Wpu :=
  { path := .idle, sag := true, ice := .held, disp := .held, grant := none, residue := 0,
    iceLearning := .held, dispLearning := .held, noFlowTimer := none, settleTimer := none,
    unclaimed := 0, leakBins := [0, 0, 0, 0, 0, 0, 0, 0, 0, 0], leakSum := 0, leakLatch := false,
    leakTimer := none, used := 0, capacity := Config.capacityDefault, age := 0, daySeconds := 0,
    dayTimer := none, saveSteps := 0, status := .ok, meterK := 2200, leakLim := 30, ageLim := 180 }

/-- TABLE 3-8, with F and T of a defaulted store. -/
def Fest.held : Fest :=
  { f := 0, t := Config.tDefault, e := 0, fillWater := 0, last := none, minuteTimer := none,
    wLo := 3, wMid := 5, wHi := 7, wFzDoor := 20, wFfDoor := 8, wFill := 2, minGap := 240,
    backstop := 4320, heatTgt := 900 }

/-- TABLE 4-5. -/
def Dfc.held : Dfc :=
  { state := .watch, cmpInhibit := false, fanEn := true, current := none, history := [],
    completionCount := 0, lastCompletion := none, onSeconds := 0, wallSeconds := 0,
    heaterOn := false, fallback := false, heatTimer := none, dripTimer := none,
    recoveryTimer := none, holdTimer := none, defTerm := 70, dripTime := 300 }

/-- TABLE 5-5. -/
def Imc.held : Imc :=
  { state := .off, batch := none, credit := 0, fillSeconds := 0, heatOnSeconds := 0,
    moldOn := false, rakeOnSeconds := 0, rakeOn := false, leftHome := false,
    disablePending := false, claimView := .none, failed := none, creditTimer := none,
    harvestTimer := none, rakeTimer := none, fillTimer := none, retryTimer := none,
    noWaterTimer := none, harvestCount := 0, stallCount := 0, fillTgt := 110, kFreeze := 320,
    startTemp := -120, tubeDuty := 25 }

/-- TABLE 6-5. -/
def Dsc.held : Dsc :=
  { queue := [], claimView := .none, last := none, c := 0, latch := false, paddle := false,
    spacingTimer := none, flowTimer := none, minuteTimer := none, vTank := 900, chillRate := 25,
    paddleMax := 60, ductDuty := 30 }

/-- An entry that is OFF (R126). -/
def LoadEntry.held (rated duty : Nat) : LoadEntry :=
  { state := .off, rated := rated, duty := duty, driven := false, period := none }

/-- TABLE 7-1. -/
def Loads.held : Loads :=
  { defHtr := .held 350 100, moldHtr := .held 180 100, rakeMtr := .held 5 100,
    fillTubeHtr := .held 12 25, ductHtr := .held 8 30 }

/-- TABLE 7-4: the rail is an input and keeps its level. -/
def Ldm.held (rail now : Nat) : Ldm :=
  { loads := .held, budget := 400, monitor := .sag, exitTimer := none, rail := rail,
    sagCount := 0, lastSag := now }

/-- TABLE 8-4, before PART_RESET is raised. -/
def Rpu.held : Rpu :=
  { flags := 0, enables := 0xFFFB, attnEnable := true, queue := [], alarmDrops := 0,
    statusDrops := 0, ageTimer := none, attn := false, reserve := 4, attnLevel := 1,
    highLevel := 24 }

/-- TABLE 9-8, with the reset cause record as given and no write in progress (R167). -/
def Lnk.held (causes : ResetCauses) : Lnk :=
  { rate := .r9600, receiver := .hunt, rxBuffer := [], replyInProgress := false, reqTag := 0,
    reply := none, replyTimer := none, resetAtReplyEnd := false, framing := 0, noise := 0,
    check := 0, overrun := 0, sync := 0, causes := causes, writing := none, writeTimer := none,
    savePending := false }

/-- A store that was never written: its check field is erased (R166, log 6). -/
def Store.blank : Store :=
  { values := { t := Config.tDefault, f := 0, used := 0, capacity := Config.capacityDefault,
                age := 0 },
    check := none }

/-- A channel after reset with its first sample period running, due at `t`. -/
def ChannelRec.started (t : Nat) : ChannelRec := { ChannelRec.held 0 with sampleTimer := some t }

/-- The part right after its first power-on: start-up has found a store never written, PART_RESET is
the one report, and DSC has requested DUCT_HTR (R154, R169, R170, R121, R138, log 6). -/
def State.reset : State :=
  { pending := [], handovers := [], now := 0, freeCount := 0, resetnLow := false,
    supplyLow := false,
    scan :=
      { chans :=
          { fz := .started 1000, ev := .started 1000, im := .started 1000, ff := .started 1000,
            wt := .started 1000, am := .started 1000 },
        switches :=
          { fzDoor := .held false 3, ffDoor := .held false 3, cmpRun := .held false 0,
            paddle := .held false 0, binBeam := .held false 0, rakeHome := .held false 0 },
        countTimer := some 1000, fzSeconds := 0, ffSeconds := 0, cmpSeconds := 0 },
    wpu := { Wpu.held with leakTimer := some 60000, dayTimer := some 1000 },
    fest := { Fest.held with minuteTimer := some 60000 },
    dfc := .held,
    imc := .held,
    dsc := { Dsc.held with minuteTimer := some 60000 },
    ldm :=
      { Ldm.held 0 0 with
        loads := { Loads.held with ductHtr := { LoadEntry.held 8 30 with state := .shed } } },
    rpu :=
      { Rpu.held with
        flags := 0x8000, queue := [{ kind := 15, age := 0, body := [0x11] }], attn := true,
        ageTimer := some 1000 },
    lnk :=
      .held { powerOn := true, supplyLow := false, resetLine := false, linkRequest := false,
              storeDefaulted := true },
    store := .blank }

end Sys2Proof.Machine
end

