-- ==== Sys2Proof/Machine/Ops.lean ====
section
/-! DEFINITION. The operations every meaning is built from: replacing one block's state, handing an
event on, taking a command, the expiry of a timer, and composing a reply frame (R159). -/

namespace Sys2Proof.Machine

open Sys2Proof

/-! ### Replacing one component of the state -/

def State.withPending (s : State) (x : List Instr) : State := { s with pending := x }

def State.withHandovers (s : State) (x : List Instr) : State := { s with handovers := x }

def State.withNow (s : State) (x : Nat) : State := { s with now := x }

def State.withFreeCount (s : State) (x : Nat) : State := { s with freeCount := x }

def State.withResetnLow (s : State) (x : Bool) : State := { s with resetnLow := x }

def State.withSupplyLow (s : State) (x : Bool) : State := { s with supplyLow := x }

def State.withScan (s : State) (x : Scan) : State := { s with scan := x }

def State.withWpu (s : State) (x : Wpu) : State := { s with wpu := x }

def State.withFest (s : State) (x : Fest) : State := { s with fest := x }

def State.withDfc (s : State) (x : Dfc) : State := { s with dfc := x }

def State.withImc (s : State) (x : Imc) : State := { s with imc := x }

def State.withDsc (s : State) (x : Dsc) : State := { s with dsc := x }

def State.withLdm (s : State) (x : Ldm) : State := { s with ldm := x }

def State.withRpu (s : State) (x : Rpu) : State := { s with rpu := x }

def State.withLnk (s : State) (x : Lnk) : State := { s with lnk := x }

def State.withStore (s : State) (x : Store) : State := { s with store := x }

/-! ### Counts -/

/-- A counter that saturates at `limit` (00_scope.md 0.8). -/
def satAdd (limit a b : Nat) : Nat := min limit (a + b)

/-- A value brought to the nearer limit of `lo..hi` (00_scope.md 0.8). -/
def clampInt (lo hi v : Int) : Int := max lo (min hi v)

/-- Whole seconds from the ms time `t` to the present time, truncated. -/
def secondsSince (now t : Nat) : Nat := (now - t) / Config.second

/-- Whole seconds left of a timer that expires at `t`, truncated. -/
def secondsLeft (now t : Nat) : Nat := (t - now) / Config.second

/-! ### Hand-overs and commands -/

/-- A block hands an event to another block: it is in flight until it is taken (log 1). -/
def State.handover (s : State) (c : Instr) : State :=
  s.withHandovers (s.handovers ++ [c])

/-- A block raises an event to RPU (R142). -/
def State.raise (s : State) (e : Event) : State := s.handover (.eventTaken e)

/-- The command `c` is being taken: where it is a hand-over in flight, it is in flight no more. -/
def State.taken (s : State) (c : Instr) : State := s.withHandovers (s.handovers.erase c)

/-- The part is out of reset: neither RESETN nor a low supply holds it there (R170). -/
def State.running (s : State) : Bool := !s.resetnLow && !s.supplyLow

/-- Take the command `c` with the effect `f`. While the part is held in reset nothing is taken: no
timer runs, no block raises an event and no frame is received (R169, log 7). -/
def perform (c : Instr) (s : State) (f : State → State) :
    Host.Outcome State Fault Refusal :=
  .next (if s.running then f (s.taken c) else s)

/-- The expiry of the timer `t` with the effect `f due`. A stopped timer does not expire. The present
time is then at least the time at which the timer was due (log 3). -/
def onExpiry (t : Timer) (s : State) (f : Nat → State → State) : State :=
  match t with
  | none => s
  | some due => f due (s.withNow (max s.now due))

/-! ### Replies -/

/-- The bit rate in bit/s (R155). -/
def rateBps : Rate → Nat
  | .r9600 => 9600
  | .r19200 => 19200
  | .r38400 => 38400
  | .r57600 => 57600

/-- Code of a RESULT (TABLE 9-4). -/
def resultCode : Result → Byte
  | .ok => 0
  | .clamped => 1
  | .badLength => 2
  | .badKind => 3
  | .badParam => 4
  | .refusedState => 5
  | .queueFull => 6
  | .unknownTag => 7
  | .duplicateTag => 8

/-- A reply frame (TABLE 9-3): SYNC, LEN, KIND + 0x80, TAG, RESULT, payload, CHECK. The reply to an
unknown KIND of 0x80 or above carries the low 8 bits of the sum (log 42). -/
def replyFrame (kind tag : Byte) (result : Result) (payload : List Byte) : List Byte :=
  0xF0 :: withCheck ([BitVec.ofNat 8 payload.length, kind + 0x80, tag, resultCode result] ++ payload)

/-- Time a frame of `n` bytes takes on the line, ten bit times a byte, rounded up to whole ms
(R155, log 10). -/
def frameMs (rate : Rate) (n : Nat) : Nat :=
  (n * 10 * 1000 + rateBps rate - 1) / rateBps rate

/-- LNK sends the reply to the request in hand, at the rate in force now, with the TAG of the
accepted frame; the reply is in progress until its last stop bit (R158, R159, log 10, log 11). -/
def answer (s : State) (kind : Byte) (result : Result) (payload : List Byte) : State :=
  let bytes := replyFrame kind s.lnk.reqTag result payload
  s.withLnk { s.lnk with
    replyInProgress := true,
    reply := some { rate := s.lnk.rate, bytes := bytes },
    replyTimer := some (s.now + frameMs s.lnk.rate bytes.length) }

/-- Draw a fresh index of a free value (log 19, log 20). -/
def State.drawFree (s : State) : State := s.withFreeCount (s.freeCount + 1)

end Sys2Proof.Machine
end

