-- ==== Sys2Proof/Machine/Operands.lean ====
section
/-! DEFINITION. The encoding of fields in requests, replies and report bodies (R161, TABLE 9-6) and the
report bodies (R147, R162, TABLE 9-7). -/

namespace Sys2Proof.Machine

open Sys2Proof

/-! ### Numbers, temperatures, presence and two-valued fields (R161) -/

/-- The low `k` bytes of a number, low byte first. -/
def le : Nat → Nat → List Byte
  | 0, _ => []
  | k + 1, n => BitVec.ofNat 8 n :: le k (n / 256)

/-- A count of seconds or minutes whose range is not stated: two bytes, saturating at 65,535. -/
def leCount (n : Nat) : List Byte := le 2 (min n Config.max16)

/-- A temperature: two bytes, two's complement. -/
def leTemp (v : Temp) : List Byte := le 2 (BitVec.ofInt 16 v).toNat

/-- The value of SET PARAM and GET PARAM: four bytes, two's complement. -/
def leSigned32 (v : Int) : List Byte := le 4 (BitVec.ofInt 32 v).toNat

/-- A number whose range excludes 0, carried as 0 when absent. -/
def leAbsentZero (k : Nat) (x : Option Nat) : List Byte := le k (x.getD 0)

/-- Any other field that may be absent: a presence byte, then the field, or zeros in its place. -/
def lePresence (k : Nat) (x : Option Nat) : List Byte :=
  match x with
  | some n => 1 :: le k n
  | none => 0 :: le k 0

/-- A temperature that may be absent. -/
def leTempPresence (x : Option Temp) : List Byte :=
  match x with
  | some v => 1 :: leTemp v
  | none => 0 :: le 2 0

/-- A count of seconds that may be absent. -/
def leCountPresence (x : Option Nat) : List Byte := lePresence 2 (x.map (min · Config.max16))

/-- A record that may be absent: a presence byte, and no bytes in its place when it is absent. -/
def leRecord {α : Type} (encode : α → List Byte) (x : Option α) : List Byte :=
  match x with
  | some r => 1 :: encode r
  | none => [0]

/-- The two-valued fields of one record or list element, the first in bit 0. -/
def packBits : List Bool → Nat
  | [] => 0
  | b :: rest => b.toNat + 2 * packBits rest

/-- A byte of packed two-valued fields. -/
def bitsByte (bits : List Bool) : Byte := BitVec.ofNat 8 (packBits bits)

/-! ### Enumerations (TABLE 9-6): code 0 is absent or none -/

def channelNumber : Channel → Nat
  | .fz => 0
  | .ev => 1
  | .im => 2
  | .ff => 3
  | .wt => 4
  | .am => 5

def inputNumber : SwitchInput → Nat
  | .fzDoor => 0
  | .ffDoor => 1
  | .cmpRun => 2
  | .paddle => 3
  | .binBeam => 4
  | .rakeHome => 5

def channelStatusCode : ChannelStatus → Nat
  | .starting => 1
  | .ok => 2
  | .faultOpen => 3
  | .faultShort => 4

def faultKindCode : FaultKind → Nat
  | .openWire => 1
  | .shorted => 2

def edgeDirectionCode : Bool → Nat
  | true => 1
  | false => 2

def defrostStateCode : DefrostState → Nat
  | .watch => 1
  | .pending => 2
  | .heat => 3
  | .drip => 4
  | .recover => 5

def startReasonCode : StartReason → Nat
  | .threshold => 1
  | .backstop => 2
  | .manual => 3

def heatEndCode : HeatEnd → Nat
  | .temp => 1
  | .maxTime => 2
  | .fallbackTime => 3
  | .starved => 4
  | .aborted => 5

def phaseCauseCode : Option PhaseCause → Nat
  | none => 0
  | some (.start r) => startReasonCode r
  | some (.finish e) => 3 + heatEndCode e

def bandCode : Option Band → Nat
  | none => 0
  | some .low => 1
  | some .mid => 2
  | some .high => 3
  | some .notOk => 4

def offerCode : Option FestReason → Nat
  | none => 0
  | some .threshold => 1
  | some .backstop => 2

def iceStateCode : IceState → Nat
  | .off => 1
  | .park => 2
  | .freezing => 3
  | .heldFull => 4
  | .harvestHeat => 5
  | .harvestRake => 6
  | .rakeRetryWait => 7
  | .fillWait => 8
  | .filling => 9
  | .fillPaused => 10
  | .stalled => 11

/-- The ice state in which the rake failed. -/
def rakeIceState : RakeState → IceState
  | .park => .park
  | .harvestRake => .harvestRake

def fillEndCode : Option FillEnd → Nat
  | none => 0
  | some .done => 1
  | some .noWater => 2
  | some .timeLimit => 3
  | some .disabled => 4

def pathStateCode : PathState → Nat
  | .idle => 1
  | .opened => 2
  | .settling => 3

def claimantCode : Claimant → Nat
  | .ice => 1
  | .disp => 2

def claimStateCode : ClaimState → Nat
  | .none => 0
  | .waiting => 1
  | .granted => 2

def claimViewCode : ClaimView → Nat
  | .none => 0
  | .waiting => 1
  | .granted => 2
  | .withdrawing => 3

def closeCauseCode : Option CloseCause → Nat
  | none => 0
  | some .closePoint => 1
  | some .released => 2
  | some .noFlow => 3
  | some .preempted => 4
  | some .sag => 5

def entryKindCode : EntryKind → Nat
  | .portion => 1
  | .paddle => 2

def entryStateCode : Option EntryState → Nat
  | none => 0
  | some .queued => 1
  | some .activeWait => 2
  | some .activeFlow => 3

def valveViewCode : Option ValveView → Nat
  | none => 0
  | some .opened => 1
  | some .closed => 2

def completionCode : Option Completion → Nat
  | none => 0
  | some .done => 1
  | some .notChilled => 2
  | some .noFlow => 3
  | some .runawayLimit => 4
  | some .supplySag => 5
  | some .userStop => 6
  | some .cancelled => 7

def filterStatusCode : FilterStatus → Nat
  | .ok => 1
  | .due => 2
  | .expired => 3

def loadStateCode : LoadState → Nat
  | .off => 1
  | .waiting => 2
  | .on => 3
  | .shed => 4

def monitorCode : Monitor → Nat
  | .normal => 1
  | .sag => 2

def rateCode : Rate → Nat
  | .r9600 => 1
  | .r19200 => 2
  | .r38400 => 3
  | .r57600 => 4

/-! ### Event kinds and report bodies -/

/-- Kind number of an event (TABLE 8-1). -/
def eventKind : Event → Nat
  | .sensorFault _ _ => 0
  | .sensorRecovered _ _ => 1
  | .inputEdge _ _ => 2
  | .defrostPhase _ _ _ => 3
  | .defrostDone _ _ _ _ _ => 4
  | .iceState _ _ => 5
  | .harvestDone _ => 6
  | .iceStall _ _ => 7
  | .noWater _ => 8
  | .dispenseDone _ => 9
  | .leak _ => 10
  | .filterStatus _ _ _ => 11
  | .supplySag _ => 12
  | .supplyRestored _ => 13
  | .queueHigh _ _ _ => 14
  | .partReset _ => 15

/-- The reset cause record, packed as the PART_RESET body (TABLE 9-7). -/
def causesByte (c : ResetCauses) : Byte :=
  bitsByte [c.powerOn, c.supplyLow, c.resetLine, c.linkRequest, c.storeDefaulted]

/-- The ten bytes of a HARVEST_DONE body (TABLE 9-7); freeze seconds are carried in tens. -/
def harvestBody (b : BatchRecord) : List Byte :=
  leAbsentZero 1 b.fillTarget ++ le 2 b.charged
    ++ le 2 (b.freezeSeconds / 10 + 8192 * fillEndCode b.fillEnd)
    ++ le 2 (b.creditAtHarvest.getD 0) ++ le 2 (b.freezeTarget.getD 0)
    ++ le 1 (packBits [b.forced, b.unknownFill, b.heaterTimeout, b.rakeRetried]
        + 16 * b.preemptions)

/-- The body of each kind of report (TABLE 9-7). -/
def eventBody : Event → List Byte
  | .sensorFault ch k => le 1 (channelNumber ch) ++ le 1 (faultKindCode k)
  | .sensorRecovered ch v => le 1 (channelNumber ch) ++ leTemp v
  | .inputEdge i a => le 1 (inputNumber i) ++ le 1 (edgeDirectionCode a)
  | .defrostPhase new prev cause =>
    le 1 (defrostStateCode new) ++ le 1 (defrostStateCode prev) ++ le 1 (phaseCauseCode cause)
  | .defrostDone reason cause on wall tAfter =>
    le 1 (startReasonCode reason) ++ le 1 (heatEndCode cause) ++ le 2 on ++ le 2 wall
      ++ leAbsentZero 3 tAfter
  | .iceState new prev => le 1 (iceStateCode new) ++ le 1 (iceStateCode prev)
  | .harvestDone b => harvestBody b
  | .iceStall failed stalls => le 1 (iceStateCode (rakeIceState failed)) ++ le 1 stalls
  | .noWater charged => le 2 charged
  | .dispenseDone r =>
    [r.tag] ++ le 1 (entryKindCode r.kind) ++ le 2 r.charged ++ leAbsentZero 2 r.target
      ++ le 1 (completionCode (some r.cause) + 128 * r.warm.toNat)
  | .leak sum => le 2 sum
  | .filterStatus status used age => le 1 (filterStatusCode status) ++ le 3 used ++ le 2 age
  | .supplySag shed => le 1 shed
  | .supplyRestored seconds => le 2 seconds
  | .queueHigh level alarmDrops statusDrops => le 1 level ++ le 1 alarmDrops ++ le 1 statusDrops
  | .partReset causes => [causesByte causes]

end Sys2Proof.Machine
end

