-- ==== Sys2Proof/Machine/Flags.lean ====
section
/-! DEFINITION. RPU's flags, enables, queue and ATTN (Section 8): taking an event, offering a report,
and evaluating ATTN. -/

namespace Sys2Proof.Machine

open Sys2Proof

/-- The set with the one kind `k` (R161). -/
def kindBit (k : Nat) : KindSet := BitVec.ofNat 16 (2 ^ k)

/-- The alarm class (TABLE 8-1): SENSOR_FAULT, ICE_STALL, NO_WATER, LEAK and SUPPLY_SAG. -/
def alarmClass (e : Event) : Bool :=
  match e with
  | .sensorFault _ _ | .iceStall _ _ | .noWater _ | .leak _ | .supplySag _ => true
  | .sensorRecovered _ _ | .inputEdge _ _ | .defrostPhase _ _ _ | .defrostDone _ _ _ _ _
  | .iceState _ _ | .harvestDone _ | .dispenseDone _ | .filterStatus _ _ _ | .supplyRestored _
  | .queueHigh _ _ _ | .partReset _ => false

/-- R148: the free slots of the report queue. -/
def freeSlots (r : Rpu) : Nat := Config.reportSlots - r.queue.length

/-- R151: ATTN is asserted when its enable is on and the level has reached ATTN_LEVEL. -/
def evalAttn (r : Rpu) : Rpu :=
  { r with attn := r.attnEnable && decide (r.attnLevel ≤ r.queue.length) }

/-- The record RPU forms of an event (R146). -/
def reportOf (e : Event) : Report := { kind := eventKind e, age := 0, body := eventBody e }

/-- R148, R151, R152: an insertion puts the record at the tail, re-evaluates ATTN and, when it brings
the level to HIGH_LEVEL, raises QUEUE_HIGH, the next event RPU takes. The insertion of a QUEUE_HIGH
record raises none (log 17). -/
def insertReport (s : State) (e : Event) : State :=
  let r := evalAttn { s.rpu with queue := s.rpu.queue ++ [reportOf e] }
  let s' := s.withRpu r
  if r.queue.length = r.highLevel ∧ eventKind e ≠ 14 then
    s'.withHandovers
      (.eventTaken (.queueHigh r.queue.length r.alarmDrops r.statusDrops) :: s'.handovers)
  else s'

/-- R148: an offered report is inserted or discarded by its class. -/
def offerReport (s : State) (e : Event) : State :=
  if alarmClass e then
    if 1 ≤ freeSlots s.rpu then insertReport s e
    else s.withRpu { s.rpu with alarmDrops := satAdd Config.max8 s.rpu.alarmDrops 1 }
  else
    if s.rpu.reserve < freeSlots s.rpu then insertReport s e
    else s.withRpu { s.rpu with statusDrops := satAdd Config.max8 s.rpu.statusDrops 1 }

/-- R143, R145: RPU takes an event: it sets the flag and, when the kind's enable is on, forms a
record and offers it. -/
def takeEvent (s : State) (e : Event) : State :=
  let s' := s.withRpu { s.rpu with flags := s.rpu.flags ||| kindBit (eventKind e) }
  if s.rpu.enables.getLsbD (eventKind e) then offerReport s' e else s'

end Sys2Proof.Machine
end

