-- ==== Sys2Proof/Machine/Ldm.lean ====
section
/-! DEFINITION. LDM (Section 7): the load table, grants within the budget, duty outputs, the supply
monitor, and LOAD STATUS. -/

namespace Sys2Proof.Machine

open Sys2Proof

/-! ### Loads by name -/

def getLoad (l : Loads) : Load → LoadEntry
  | .defHtr => l.defHtr
  | .moldHtr => l.moldHtr
  | .rakeMtr => l.rakeMtr
  | .fillTubeHtr => l.fillTubeHtr
  | .ductHtr => l.ductHtr

def setLoad (l : Loads) (x : Load) (e : LoadEntry) : Loads :=
  match x with
  | .defHtr => { l with defHtr := e }
  | .moldHtr => { l with moldHtr := e }
  | .rakeMtr => { l with rakeMtr := e }
  | .fillTubeHtr => { l with fillTubeHtr := e }
  | .ductHtr => { l with ductHtr := e }

def mapLoads (f : LoadEntry → LoadEntry) (l : Loads) : Loads :=
  { defHtr := f l.defHtr, moldHtr := f l.moldHtr, rakeMtr := f l.rakeMtr,
    fillTubeHtr := f l.fillTubeHtr, ductHtr := f l.ductHtr }

/-- The loads in priority order (TABLE 7-1). -/
def loadOrder : List Load := [.defHtr, .moldHtr, .rakeMtr, .fillTubeHtr, .ductHtr]

/-- The entry of a load in the part. -/
def State.load (s : State) (x : Load) : LoadEntry := getLoad s.ldm.loads x

/-! ### Power (R126, R128) -/

/-- The power an entry takes of the budget: its rated power while ON (R132). -/
def wattsOn (e : LoadEntry) : Nat := if e.state = .on then e.rated else 0

/-- R126: the ON total. -/
def onTotal (l : Loads) : Nat :=
  wattsOn l.defHtr + wattsOn l.moldHtr + wattsOn l.rakeMtr + wattsOn l.fillTubeHtr
    + wattsOn l.ductHtr

/-- R126: the budget in force. -/
def budgetInForce (x : Ldm) : Nat :=
  match x.monitor with
  | .sag => 0
  | .normal => x.budget

/-- R128, R132: an entry is set ON; below a duty of 100 a duty period starts with the output driven. -/
def grantEntry (now : Nat) (e : LoadEntry) : LoadEntry :=
  { e with
    state := .on, driven := true,
    period := if e.duty < 100 then some { start := now, duty := e.duty } else none }

/-- R132: an entry that is not ON has its output released and its duty period timer stopped. -/
def leaveOn (e : LoadEntry) (st : LoadState) : LoadEntry :=
  { e with state := st, driven := false, period := none }

/-- R128: one entry of the scan. -/
def grantIfFits (now budget : Nat) (l : Loads) (x : Load) : Loads :=
  let e := getLoad l x
  if e.state = .waiting ∧ onTotal l + e.rated ≤ budget then setLoad l x (grantEntry now e) else l

/-- R128: the grant evaluation, in priority order. -/
def evaluateLoads (now budget : Nat) (l : Loads) : Loads :=
  loadOrder.foldl (grantIfFits now budget) l

/-- R130: an ON entry is returned to WAITING while the ON total stands above the budget. -/
def returnIfOver (budget : Nat) (l : Loads) (x : Load) : Loads :=
  let e := getLoad l x
  if e.state = .on ∧ budget < onTotal l then setLoad l x (leaveOn e .waiting) else l

/-- R130: ON entries are returned lowest priority first. -/
def returnLoads (budget : Nat) (l : Loads) : Loads := loadOrder.reverse.foldl (returnIfOver budget) l

/-! ### Hand-overs to the requesters (R131) -/

/-- The hand-over of ON or not ON. IMC and DSC take those of the trace heaters and change nothing, so
they are no step. -/
def handLoad (s : State) (x : Load) (isOn : Bool) : State :=
  match x with
  | .defHtr => s.handover (.heaterOnAtDfc isOn)
  | .moldHtr => s.handover (.moldOnAtImc isOn)
  | .rakeMtr => s.handover (.rakeOnAtImc isOn)
  | .fillTubeHtr | .ductHtr => s

/-- R130, R131: the net change of one entry between ON and not ON is handed. -/
def handIfChanged (old : Loads) (s : State) (x : Load) : State :=
  let was := decide ((getLoad old x).state = .on)
  let is := decide ((s.load x).state = .on)
  if was = is then s else handLoad s x is

/-- The load table becomes `l`, and each net change is handed in priority order. -/
def commitLoads (s : State) (l : Loads) : State :=
  let old := s.ldm.loads
  loadOrder.foldl (handIfChanged old) (s.withLdm { s.ldm with loads := l })

/-- The load table becomes `l` and, outside sag, a grant evaluation is made (R128, R136). -/
def settleLoads (s : State) (l : Loads) : State :=
  match s.ldm.monitor with
  | .sag => commitLoads s l
  | .normal => commitLoads s (evaluateLoads s.now s.ldm.budget l)

/-- R130: a change of BUDGET or of a rated power, with the table and budget as changed. -/
def rebalance (s : State) (l : Loads) : State :=
  match s.ldm.monitor with
  | .sag => commitLoads s l
  | .normal => commitLoads s (evaluateLoads s.now s.ldm.budget (returnLoads s.ldm.budget l))

/-! ### Requester events (R127) -/

/-- R126: the duty a request gives an entry. DEF_HTR runs at the parameter DEF_DUTY, MOLD_HTR and
RAKE_MTR at 100, whatever the request carries (log 35). -/
def requestedDuty (x : Load) (e : LoadEntry) (duty : Nat) : Nat :=
  match x with
  | .defHtr => e.duty
  | .moldHtr | .rakeMtr => 100
  | .fillTubeHtr | .ductHtr => duty

/-- R127, R136: a request. One that finds its entry ON only stores the duty: a running duty period takes
it at its end, and an output driven continuously stays so until the next grant or duty change (log 44). -/
def requestLoad (s : State) (x : Load) (duty : Nat) : State :=
  let e := s.load x
  let e := { e with duty := requestedDuty x e duty }
  match e.state, s.ldm.monitor with
  | .off, .normal => settleLoads s (setLoad s.ldm.loads x { e with state := .waiting })
  | .off, .sag => commitLoads s (setLoad s.ldm.loads x { e with state := .shed })
  | _, _ => commitLoads s (setLoad s.ldm.loads x e)

def execLoadRequest (x : Load) (duty : Nat) (s : State) : Host.Outcome State Fault Refusal :=
  perform (.loadRequest x duty) s fun s => requestLoad s x duty

/-- R133: a duty change of an entry, applied to its output when it is ON. -/
def applyDuty (now : Nat) (e : LoadEntry) (duty : Nat) : LoadEntry :=
  let e' := { e with duty := duty }
  if e.state = .on then
    match e.period with
    | none => if duty < 100 then { e' with driven := true, period := some { start := now, duty := duty } }
      else e'
    | some _ => if duty < 100 then e' else { e' with driven := true, period := none }
  else e'

/-- R126, R133: MOLD_HTR and RAKE_MTR always run at 100. A duty change of DEF_HTR is a change of DEF_DUTY:
it stores the duty it carries as that parameter, in the range its sender keeps it to (log 35, log 36). -/
def changeDuty (s : State) (x : Load) (duty : Nat) : State :=
  let d := match x with
    | .moldHtr | .rakeMtr => 100
    | .defHtr | .fillTubeHtr | .ductHtr => duty
  s.withLdm { s.ldm with loads := setLoad s.ldm.loads x (applyDuty s.now (s.load x) d) }

def execDutyChange (x : Load) (duty : Nat) (s : State) : Host.Outcome State Fault Refusal :=
  perform (.dutyChange x duty) s fun s => changeDuty s x duty

/-- A request or duty change of the load that is still in flight. -/
def requestInFlight (x : Load) (c : Instr) : Bool :=
  match c with
  | .loadRequest y _ => decide (y = x)
  | .dutyChange y _ => decide (y = x)
  | _ => false

/-- R127: LDM takes a request or duty change that was in flight. -/
def takeRequest (s : State) (c : Instr) : State :=
  match c with
  | .loadRequest y duty => requestLoad s y duty
  | .dutyChange y duty => changeDuty s y duty
  | _ => s

/-- The requester's earlier requests and duty changes of the load, still in flight, are taken first, in
the order in which it made them (log 12). -/
def takeInFlight (s : State) (x : Load) : State :=
  (s.handovers.filter (requestInFlight x)).foldl takeRequest
    (s.withHandovers (s.handovers.filter fun c => !requestInFlight x c))

/-- R128: outside sag a grant evaluation is made. -/
def evaluateNow (s : State) : State :=
  match s.ldm.monitor with
  | .sag => s
  | .normal => commitLoads s (evaluateLoads s.now s.ldm.budget s.ldm.loads)

/-- TABLE 7-2: a release at the entry. The not ON is handed before the evaluation is made. -/
def releaseEntry (s : State) (x : Load) : State :=
  let e := s.load x
  let off := setLoad s.ldm.loads x (leaveOn e .off)
  match e.state with
  | .off => s
  | .shed => commitLoads s off
  | .waiting | .on => evaluateNow (commitLoads s off)

/-- R127: a release, taken in the act of the requester that makes it. -/
def releaseLoad (s : State) (x : Load) : State := releaseEntry (takeInFlight s x) x

def execLoadRelease (x : Load) (s : State) : Host.Outcome State Fault Refusal :=
  perform (.loadRelease x) s fun s => releaseLoad s x

/-- R132: when the duty period timer is next due: the switch-off point while the output is driven,
the end of the period while it is released. -/
def dutyTimer (e : LoadEntry) : Timer :=
  e.period.map fun p => p.start + (if e.driven then p.duty * 100 else Config.dutyPeriodMs)

/-- R132, R133: the switch-off point releases the output; the end of the period drives it again, in a
new period with the duty as it stands. -/
def stepDuty (e : LoadEntry) (p : DutyPeriod) : LoadEntry :=
  if e.driven then { e with driven := false }
  else
    { e with
      driven := true,
      period := if e.duty < 100 then some { start := p.start + Config.dutyPeriodMs, duty := e.duty }
        else none }

def takeDutyPeriod (s : State) (x : Load) : State :=
  let e := s.load x
  match e.period with
  | some p => s.withLdm { s.ldm with loads := setLoad s.ldm.loads x (stepDuty e p) }
  | none => s

def execDutyPeriodTimer (x : Load) (s : State) : Host.Outcome State Fault Refusal :=
  perform (.dutyPeriodTimer x) s fun s => onExpiry (dutyTimer (s.load x)) s fun _ s => takeDutyPeriod s x

/-! ### The supply monitor (R134 to R137) -/

/-- R135 step 2: ON and WAITING entries become SHED. -/
def shedEntry (e : LoadEntry) : LoadEntry :=
  match e.state with
  | .on | .waiting => leaveOn e .shed
  | .off | .shed => e

/-- The number of entries a sag entry sheds (R135). -/
def shedCount (l : Loads) : Nat :=
  (loadOrder.filter fun x => decide ((getLoad l x).state = .on ∨ (getLoad l x).state = .waiting)).length

/-- R135: the sag entry, as one act. -/
def sagEntry (s : State) : State :=
  let n := shedCount s.ldm.loads
  let s := s.withLdm { s.ldm with monitor := .sag, exitTimer := none }
  let s := commitLoads s (mapLoads shedEntry s.ldm.loads)
  let s := (s.handover .wpuSagEntry).handover .saveRequest
  let s := s.withLdm { s.ldm with sagCount := satAdd Config.max8 s.ldm.sagCount 1, lastSag := s.now }
  s.raise (.supplySag n)

/-- R137 step 2: SHED entries become WAITING. -/
def restoreEntry (e : LoadEntry) : LoadEntry :=
  match e.state with
  | .shed => { e with state := .waiting }
  | .off | .waiting | .on => e

/-- R137: the sag exit, as one act. -/
def sagExit (s : State) : State :=
  let s := s.withLdm { s.ldm with monitor := .normal, exitTimer := none }
  let s := s.handover .wpuSagExit
  let s := settleLoads s (mapLoads restoreEntry s.ldm.loads)
  s.raise (.supplyRestored (min Config.max16 (secondsSince s.now s.ldm.lastSag)))

/-- The rail's level is an input: it is taken also while the part is held in reset (log 7). -/
def State.withRail (s : State) (rail : Nat) : State := s.withLdm { s.ldm with rail := rail }

/-- R134: in NORMAL a fall below 85 % is a sag entry; in SAG it is also a fall to 90 % or below, and
stops the exit timer (log 32). -/
def railBelow (s : State) : State :=
  match s.ldm.monitor with
  | .normal => sagEntry s
  | .sag => s.withLdm { s.ldm with exitTimer := none }

def execRailBelowEntry (rail : Nat) (s : State) : Host.Outcome State Fault Refusal :=
  perform (.railBelowEntry rail) (s.withRail rail) railBelow

/-- R134: in SAG a rise above 90 % starts the exit timer. -/
def railAbove (s : State) : State :=
  match s.ldm.monitor, s.ldm.exitTimer with
  | .sag, none => s.withLdm { s.ldm with exitTimer := some (s.now + Config.exitMs) }
  | _, _ => s

def execRailAboveExit (rail : Nat) (s : State) : Host.Outcome State Fault Refusal :=
  perform (.railAboveExit rail) (s.withRail rail) railAbove

/-- R134: in SAG a fall to 90 % or below stops the exit timer; in NORMAL it changes nothing. -/
def railBack (s : State) : State :=
  match s.ldm.monitor with
  | .sag => s.withLdm { s.ldm with exitTimer := none }
  | .normal => s

def execRailFallsBack (rail : Nat) (s : State) : Host.Outcome State Fault Refusal :=
  perform (.railFallsBack rail) (s.withRail rail) railBack

def execExitTimerExpiry (s : State) : Host.Outcome State Fault Refusal :=
  perform .exitTimerExpiry s fun s => onExpiry s.ldm.exitTimer s fun _ s => sagExit s

/-! ### LOAD STATUS (R139) -/

/-- R161, TABLE 7-3: the fewest bytes that hold the range of a load's rated power: W_DEF (100..600) and
W_MOLD (50..300) take two, W_RAKE (1..20), W_TUBE and W_DUCT (1..40) take one. -/
def ratedBytes (x : Load) : Nat :=
  match x with
  | .defHtr | .moldHtr => 2
  | .rakeMtr | .fillTubeHtr | .ductHtr => 1

def loadBytes (x : Load) (e : LoadEntry) : List Byte :=
  le 1 (loadStateCode e.state) ++ le (ratedBytes x) e.rated ++ le 1 e.duty ++ [bitsByte [e.driven]]

/-- R139: the rail reading in whole percent, truncated, saturating at 150. -/
def railPercent (rail : Nat) : Nat := min 150 (rail / 10)

def loadPayload (now : Nat) (x : Ldm) : List Byte :=
  (loadOrder.flatMap fun l => loadBytes l (getLoad x.loads l)) ++ le 2 (onTotal x.loads)
    ++ le 2 x.budget ++ le 2 (budgetInForce x) ++ le 1 (monitorCode x.monitor)
    ++ [bitsByte [x.exitTimer.isSome]] ++ le 1 (railPercent x.rail) ++ le 1 x.sagCount
    ++ leCountPresence (if x.monitor = .sag then some (secondsSince now x.lastSag) else none)

def execLoadStatus (s : State) : Host.Outcome State Fault Refusal :=
  perform .loadStatus s fun s => answer s 0x70 .ok (loadPayload s.now s.ldm)

end Sys2Proof.Machine
end

