-- ==== Sys2Proof/Machine/Scan.lean ====
section
/-! DEFINITION. SCAN (Section 1): samples, channel status, watermarks, switch inputs, second counters,
and SCAN's requests. -/

namespace Sys2Proof.Machine

open Sys2Proof

/-! ### Channels and switches by name -/

def getChannel (c : Channels) : Channel → ChannelRec
  | .fz => c.fz
  | .ev => c.ev
  | .im => c.im
  | .ff => c.ff
  | .wt => c.wt
  | .am => c.am

def setChannel (c : Channels) (ch : Channel) (r : ChannelRec) : Channels :=
  match ch with
  | .fz => { c with fz := r }
  | .ev => { c with ev := r }
  | .im => { c with im := r }
  | .ff => { c with ff := r }
  | .wt => { c with wt := r }
  | .am => { c with am := r }

def mapChannels (f : ChannelRec → ChannelRec) (c : Channels) : Channels :=
  { fz := f c.fz, ev := f c.ev, im := f c.im, ff := f c.ff, wt := f c.wt, am := f c.am }

/-- The channels in channel-number order. -/
def channelList (c : Channels) : List ChannelRec := [c.fz, c.ev, c.im, c.ff, c.wt, c.am]

def getSwitch (w : Switches) : SwitchInput → SwitchRec
  | .fzDoor => w.fzDoor
  | .ffDoor => w.ffDoor
  | .cmpRun => w.cmpRun
  | .paddle => w.paddle
  | .binBeam => w.binBeam
  | .rakeHome => w.rakeHome

def setSwitch (w : Switches) (i : SwitchInput) (r : SwitchRec) : Switches :=
  match i with
  | .fzDoor => { w with fzDoor := r }
  | .ffDoor => { w with ffDoor := r }
  | .cmpRun => { w with cmpRun := r }
  | .paddle => { w with paddle := r }
  | .binBeam => { w with binBeam := r }
  | .rakeHome => { w with rakeHome := r }

/-- The switch inputs in input-number order. -/
def switchList (w : Switches) : List SwitchRec :=
  [w.fzDoor, w.ffDoor, w.cmpRun, w.paddle, w.binBeam, w.rakeHome]

/-- The channel `ch` of the part as SCAN last set it (R8). -/
def State.channel (s : State) (ch : Channel) : ChannelRec := getChannel s.scan.chans ch

/-- The debounced state of a switch input. -/
def State.switchAsserted (s : State) (i : SwitchInput) : Bool := (getSwitch s.scan.switches i).asserted

def State.withChannel (s : State) (ch : Channel) (r : ChannelRec) : State :=
  s.withScan { s.scan with chans := setChannel s.scan.chans ch r }

def State.withSwitch (s : State) (i : SwitchInput) (r : SwitchRec) : State :=
  s.withScan { s.scan with switches := setSwitch s.scan.switches i r }

/-! ### Samples (R1 to R9) -/

/-- A classified sample (R1). -/
inductive Sample where
  | valid (v : Temp)
  | outOfRange (k : FaultKind)
  deriving DecidableEq, Repr

/-- R1, R18: the offset is added before the range test. -/
def classify (reading offset : Temp) : Sample :=
  let v := reading + offset
  if v < Config.tempMin then .outOfRange .openWire
  else if Config.tempMax < v then .outOfRange .shorted
  else .valid v

/-- R3: the mean of the window, to the nearest tenth, a half toward +∞. -/
def formedValue (window : List Int) : Int :=
  let n : Int := window.length
  let sum : Int := window.sum
  (2 * sum + n) / (2 * n)

/-- R5: a window of four gives up its oldest sample first. -/
def pushSample (window : List Temp) (v : Temp) : List Temp :=
  if 4 ≤ window.length then window.drop 1 ++ [v] else window ++ [v]

/-- R3, R9: a channel forms a value from `window`. -/
def formValue (r : ChannelRec) (window : List Temp) : ChannelRec :=
  let v := formedValue window
  { r with window := window, value := some v, wmin := min r.wmin v, wmax := max r.wmax v }

/-- The status of a fault kind (R6). -/
def faultStatus : FaultKind → ChannelStatus
  | .openWire => .faultOpen
  | .shorted => .faultShort

/-- R9: the watermark pin of a fault kind. -/
def pinWatermark (r : ChannelRec) (k : FaultKind) : ChannelRec :=
  match k with
  | .openWire => { r with wmin := Config.tempMin }
  | .shorted => { r with wmax := Config.tempMax }

/-- R6 and R7: the record enters the fault `k`. -/
def enterFault (r : ChannelRec) (k : FaultKind) : ChannelRec :=
  pinWatermark { r with status := faultStatus k, window := [], good := 0 } k

/-- What a sample does to a channel: the record after it, whether SCAN hands the channel to its
consumers (R8), and the event it raises. -/
structure SampleEffect where
  record : ChannelRec
  handed : Bool
  raised : Option Event
  deriving DecidableEq, Repr

/-- R4, R5: an out-of-range sample of a channel that is not faulted. -/
def missSample (ch : Channel) (r : ChannelRec) (k : FaultKind) : SampleEffect :=
  let r' := { r with bad := r.bad + 1 }
  if 3 ≤ r'.bad then
    { record := enterFault { r' with bad := 3 } k, handed := true, raised := some (.sensorFault ch k) }
  else { record := r', handed := false, raised := none }

/-- R7: a sample of a faulted channel. -/
def faultedSample (ch : Channel) (r : ChannelRec) (x : Sample) : SampleEffect :=
  match x with
  | .valid v =>
    let window := pushSample r.window v
    if 3 ≤ r.good + 1 then
      let r' := formValue { r with status := .ok, bad := 0, good := 0 } window
      { record := r', handed := true, raised := some (.sensorRecovered ch (formedValue window)) }
    else { record := { r with window := window, good := r.good + 1 }, handed := false, raised := none }
  | .outOfRange k =>
    if r.status = faultStatus k then
      { record := { r with window := [], good := 0 }, handed := false, raised := none }
    else { record := enterFault r k, handed := true, raised := some (.sensorFault ch k) }

/-- TABLE 1-4: the effect of a sample in each status. -/
def sampleEffect (ch : Channel) (r : ChannelRec) (x : Sample) : SampleEffect :=
  match r.status, x with
  | .starting, .valid v =>
    { record := formValue { r with status := .ok, bad := 0 } [v], handed := true, raised := none }
  | .ok, .valid v =>
    { record := formValue { r with bad := 0 } (pushSample r.window v), handed := true, raised := none }
  | .starting, .outOfRange k => missSample ch r k
  | .ok, .outOfRange k => missSample ch r k
  | .faultOpen, x => faultedSample ch r x
  | .faultShort, x => faultedSample ch r x

/-- R8: the hand-over of a channel to its consumer. FF has none; WT and AM are read by DSC and FEST
at their own minutes, and their hand-overs change nothing there (R120, R45). -/
def handChannel (s : State) (ch : Channel) (r : ChannelRec) : State :=
  match ch with
  | .fz => s.handover (.fzAtImc r.status r.value)
  | .ev => s.handover (.evAtDfc r.status r.value)
  | .im => s.handover (.imAtImc r.status r.value)
  | .ff | .wt | .am => s

/-- R1: SCAN takes one sample of the channel and restarts its sample period. -/
def takeSample (s : State) (ch : Channel) (reading : Temp) (due : Nat) : State :=
  let r := s.channel ch
  let e := sampleEffect ch r (classify reading r.offset)
  let r' := { e.record with sampleTimer := some (due + Config.second), reading := reading }
  let s := s.withChannel ch r'
  let s := match e.raised with
    | some ev => s.raise ev
    | none => s
  if e.handed then handChannel s ch r' else s

def execSamplePeriod (ch : Channel) (reading : Temp) (s : State) :
    Host.Outcome State Fault Refusal :=
  perform (.samplePeriod ch reading) s fun s =>
    onExpiry (s.channel ch).sampleTimer s fun due s => takeSample s ch reading due

/-! ### Switch inputs (R11 to R14) -/

/-- R11: SCAN compares the pin's level with the debounced state: on a disagreement the debounce timer
runs, from its full time when it was stopped; on an agreement it stands stopped. -/
def comparePin (now : Nat) (i : SwitchInput) (r : SwitchRec) : SwitchRec :=
  if r.pinLow = r.asserted then { r with timer := none }
  else
    match r.timer with
    | some t => { r with timer := some t }
    | none => { r with timer := some (now + Config.debounceMs i) }

/-- R12: the hand-over of a changed switch input to its consumer. The counted inputs are read by SCAN
itself at the count second (R14). -/
def handSwitch (s : State) (i : SwitchInput) (asserted : Bool) : State :=
  match i with
  | .paddle => s.handover (if asserted then .paddleAssertion else .paddleRelease)
  | .binBeam => s.handover (.binBeamAtImc asserted)
  | .rakeHome => s.handover (.rakeHomeAtImc asserted)
  | .fzDoor | .ffDoor | .cmpRun => s

/-- R12: bit 0 of the edge-select code selects assertions, bit 1 releases. -/
def edgeSelected (edge : BitVec 2) (asserted : Bool) : Bool :=
  if asserted then edge.getLsbD 0 else edge.getLsbD 1

/-- R11, R12: the debounced state changes to the level the pin has held. -/
def changeSwitch (s : State) (i : SwitchInput) : State :=
  let r := getSwitch s.scan.switches i
  let s := s.withSwitch i { r with asserted := r.pinLow, timer := none }
  let s := handSwitch s i r.pinLow
  if edgeSelected r.edge r.pinLow then s.raise (.inputEdge i r.pinLow) else s

/-- The pin takes its level also while the part is held in reset; SCAN compares it only out of
reset (R11, log 7). -/
def execSwitchPinChange (i : SwitchInput) (low : Bool) (s : State) :
    Host.Outcome State Fault Refusal :=
  let r := { getSwitch s.scan.switches i with pinLow := low }
  .next (s.withSwitch i (if s.running then comparePin s.now i r else r))

def execDebounceExpiry (i : SwitchInput) (s : State) : Host.Outcome State Fault Refusal :=
  perform (.debounceExpiry i) s fun s =>
    onExpiry (getSwitch s.scan.switches i).timer s fun _ s => changeSwitch s i

/-- R14: a second counter, 0..60, saturating, counts when its input is asserted. -/
def countSwitch (n : Nat) (asserted : Bool) : Nat := if asserted then satAdd 60 n 1 else n

/-- R14: the count second. -/
def takeCountSecond (s : State) (due : Nat) : State :=
  let w := s.scan.switches
  s.withScan { s.scan with
    countTimer := some (due + Config.second),
    fzSeconds := countSwitch s.scan.fzSeconds w.fzDoor.asserted,
    ffSeconds := countSwitch s.scan.ffSeconds w.ffDoor.asserted,
    cmpSeconds := countSwitch s.scan.cmpSeconds w.cmpRun.asserted }

def execCountSecond (s : State) : Host.Outcome State Fault Refusal :=
  perform .countSecond s fun s => onExpiry s.scan.countTimer s fun due s => takeCountSecond s due

/-! ### Requests (R10, R13, R16, R17) -/

/-- R16: status, value, window size, bad and good counts of one channel. -/
def sensorBytes (r : ChannelRec) : List Byte :=
  le 1 (channelStatusCode r.status) ++ leTempPresence r.value ++ le 1 r.window.length
    ++ le 1 r.bad ++ le 1 r.good

def sensorsPayload (c : Channels) : List Byte := (channelList c).flatMap sensorBytes

def execReadSensors (s : State) : Host.Outcome State Fault Refusal :=
  perform .readSensors s fun s => answer s 0x10 .ok (sensorsPayload s.scan.chans)

def watermarksPayload (c : Channels) : List Byte :=
  (channelList c).flatMap fun r => leTemp r.wmin ++ leTemp r.wmax

/-- R10: the pair is reset, and the pin of a channel that is still faulted is applied again. -/
def resetWatermarks (r : ChannelRec) : ChannelRec :=
  let r' := { r with wmin := Config.tempMax, wmax := Config.tempMin }
  match r.status with
  | .faultOpen => pinWatermark r' .openWire
  | .faultShort => pinWatermark r' .shorted
  | .starting | .ok => r'

def execReadWatermarks (s : State) : Host.Outcome State Fault Refusal :=
  perform .readWatermarks s fun s =>
    let s' := answer s 0x11 .ok (watermarksPayload s.scan.chans)
    s'.withScan { s.scan with chans := mapChannels resetWatermarks s.scan.chans }

def inputBytes (r : SwitchRec) : List Byte := bitsByte [r.asserted] :: le 1 r.edge.toNat

def inputsPayload (x : Scan) : List Byte :=
  (switchList x.switches).flatMap inputBytes
    ++ le 1 x.fzSeconds ++ le 1 x.ffSeconds ++ le 1 x.cmpSeconds

def execReadInputs (s : State) : Host.Outcome State Fault Refusal :=
  perform .readInputs s fun s => answer s 0x12 .ok (inputsPayload s.scan)

/-- The input of a number, none from 6 on (R13). -/
def inputOf (n : Byte) : Option SwitchInput :=
  match n.toNat with
  | 0 => some .fzDoor
  | 1 => some .ffDoor
  | 2 => some .cmpRun
  | 3 => some .paddle
  | 4 => some .binBeam
  | 5 => some .rakeHome
  | _ => none

/-- R13: the code is stored, 3 for a code above 3. What the code byte of a BAD_PARAM reply reads is
not stated: a free value (log 19). -/
def setEdge (s : State) (input code : Byte) : State :=
  match inputOf input with
  | none => (answer s 0x13 .badParam [input, Config.freeByte s.freeCount]).drawFree
  | some i =>
    let stored : BitVec 2 := BitVec.ofNat 2 (min code.toNat 3)
    let s' := s.withSwitch i { getSwitch s.scan.switches i with edge := stored }
    answer s' 0x13 (if code.toNat ≤ 3 then .ok else .clamped) (input :: le 1 stored.toNat)

def execSetEdge (input code : Byte) (s : State) : Host.Outcome State Fault Refusal :=
  perform (.setEdge input code) s fun s => setEdge s input code

end Sys2Proof.Machine
end

