-- ==== Sys2Proof/Machine/Dfc.lean ====
section
/-! DEFINITION. DFC (Section 4): requests for a defrost, HEAT, DRIP, RECOVER, completion, abort and the
retry hold, and DFC's requests. -/

namespace Sys2Proof.Machine

open Sys2Proof

/-- R58, R76: DFC changes its state: DEFROST_PHASE is raised and the change is handed to IMC. -/
def changeDefrost (s : State) (new : DefrostState) (cause : Option PhaseCause) : State :=
  let prev := s.dfc.state
  let s := s.withDfc { s.dfc with state := new }
  (s.raise (.defrostPhase new prev cause)).handover (.dfcStateAtImc new)

/-! ### Starting (R60 to R64) -/

/-- R62: the gap, in whole minutes since the last completion. -/
def gapMinutes (s : State) : Option Nat :=
  s.dfc.lastCompletion.map fun t => min Config.max16 ((s.now - t) / Config.minute)

/-- R64: HEAT entry, as one act. -/
def enterHeat (s : State) : State :=
  let s := s.handover (.loadRequest .defHtr (s.load .defHtr).duty)
  let s := s.withDfc { s.dfc with
    cmpInhibit := true, fanEn := false, onSeconds := 0, wallSeconds := 0,
    heatTimer := some (s.now + Config.second),
    heaterOn := false,
    fallback := decide ((s.channel .ev).status ≠ .ok) }
  changeDefrost s .heat none

/-- R62, R74: a new defrost record. -/
def openDefrost (reason : StartReason) (frost : Nat) (gap : Option Nat) : DefrostRecord :=
  { reason := reason, frost := frost, gap := gap, tBefore := none, tAfter := none,
    onSeconds := none, wallSeconds := none, endCause := none }

/-- R62: PENDING entry, going on to HEAT when IMC is not FILLING. -/
def enterPending (s : State) (reason : StartReason) (frost : Nat) : State :=
  let s := s.withDfc { s.dfc with current := some (openDefrost reason frost (gapMinutes s)) }
  let s := changeDefrost s .pending (some (.start reason))
  if s.imc.state = .filling then s else enterHeat s

/-- The start reason of a FEST request. -/
def startReasonOf : FestReason → StartReason
  | .threshold => .threshold
  | .backstop => .backstop

/-- R60: taken in WATCH with no retry hold running, ignored otherwise. -/
def takeDefrostRequest (s : State) (reason : FestReason) (frost : Nat) : State :=
  if s.dfc.state = .watch ∧ s.dfc.holdTimer = none then enterPending s (startReasonOf reason) frost
  else s

def execDefrostRequest (reason : FestReason) (frost : Nat) (s : State) :
    Host.Outcome State Fault Refusal :=
  perform (.defrostRequest reason frost) s fun s => takeDefrostRequest s reason frost

/-- R61. -/
def startDefrost (s : State) : State :=
  if s.dfc.state = .watch then
    let s := enterPending (s.withDfc { s.dfc with holdTimer := none }) .manual s.fest.f
    answer s 0x40 .ok (le 1 (defrostStateCode s.dfc.state))
  else answer s 0x40 .refusedState (le 1 (defrostStateCode s.dfc.state))

def execDefrostStart (s : State) : Host.Outcome State Fault Refusal :=
  perform .defrostStart s startDefrost

/-- R63: a change that leaves IMC out of FILLING moves PENDING into HEAT. DFC enters HEAT only in an
act in which IMC is not in FILLING (log 15). -/
def execImcStateAtDfc (state : IceState) (s : State) : Host.Outcome State Fault Refusal :=
  perform (.imcStateAtDfc state) s fun s =>
    if s.dfc.state = .pending ∧ state ≠ .filling ∧ s.imc.state ≠ .filling then enterHeat s else s

/-! ### HEAT (R64 to R68) -/

/-- R68 step 3: the end cause and the counts are written into the current record. -/
def closeHeatRecord (x : Dfc) (cause : HeatEnd) : Option DefrostRecord :=
  x.current.map fun r =>
    { r with onSeconds := some x.onSeconds, wallSeconds := some x.wallSeconds,
             endCause := some cause }

/-- R68: HEAT ends, as one act. The release of DEF_HTR is part of it. -/
def endHeat (s : State) (cause : HeatEnd) : State :=
  let s := s.withDfc { s.dfc with heatTimer := none }
  let s := releaseLoad s .defHtr
  let s := s.withDfc { s.dfc with current := closeHeatRecord s.dfc cause }
  let s := s.handover (.heatEndAtFest cause s.dfc.onSeconds)
  let s := s.withDfc { s.dfc with dripTimer := some (s.now + s.dfc.dripTime * Config.second) }
  changeDefrost s .drip (some (.finish cause))

/-- R67: the limit reached, an ON-seconds limit before the wall cap. -/
def heatLimit (fallback : Bool) (onSeconds wallSeconds : Nat) : Option HeatEnd :=
  if fallback = false ∧ Config.heatMax ≤ onSeconds then some .maxTime
  else if fallback = true ∧ Config.fallbackTime ≤ onSeconds then some .fallbackTime
  else if Config.wallCap ≤ wallSeconds then some .starved
  else none

/-- R65: a heat second is counted, and then the limits are tested. -/
def takeHeatSecond (s : State) (due : Nat) : State :=
  let s := s.withDfc { s.dfc with
    wallSeconds := s.dfc.wallSeconds + 1,
    onSeconds := if s.dfc.heaterOn then s.dfc.onSeconds + 1 else s.dfc.onSeconds,
    heatTimer := some (due + Config.second) }
  match heatLimit s.dfc.fallback s.dfc.onSeconds s.dfc.wallSeconds with
  | some cause => endHeat s cause
  | none => s

/-- The timer runs in HEAT only (R65). -/
def execHeatSecond (s : State) : Host.Outcome State Fault Refusal :=
  perform .heatSecond s fun s =>
    onExpiry s.dfc.heatTimer s fun due s =>
      if s.dfc.state = .heat then takeHeatSecond s due
      else s.withDfc { s.dfc with heatTimer := none }

/-- R64, R68, R69: ON sets the indication in HEAT and changes nothing elsewhere; not ON clears it in
every state (log 16). -/
def execHeaterOnAtDfc (isOn : Bool) (s : State) : Host.Outcome State Fault Refusal :=
  perform (.heaterOnAtDfc isOn) s fun s =>
    s.withDfc { s.dfc with
      heaterOn := isOn && (s.dfc.heaterOn || decide (s.dfc.state = .heat)) }

/-- R68 step 4: T before and T after are written into the current record, in DRIP. -/
def execTHandBack (before after : Nat) (s : State) : Host.Outcome State Fault Refusal :=
  perform (.tHandBack before after) s fun s =>
    if s.dfc.state = .drip then
      s.withDfc { s.dfc with
        current := s.dfc.current.map fun r => { r with tBefore := some before, tAfter := some after } }
    else s

/-! ### RECOVER and completion (R69 to R71, R73) -/

/-- R71 step 6: the end causes that start the retry hold. -/
def startsHold : HeatEnd → Bool
  | .aborted | .starved => true
  | .temp | .maxTime | .fallbackTime => false

/-- R71 steps 2 to 6: what the completion does with the closed record. -/
def fileRecord (s : State) (r : DefrostRecord) (cause : HeatEnd) : State :=
  let s := s.withDfc { s.dfc with
    current := none,
    history := (r :: s.dfc.history).take 8,
    lastCompletion := some s.now,
    completionCount := satAdd Config.max16 s.dfc.completionCount 1 }
  let s := (s.handover (.completionAtFest cause)).handover .saveRequest
  if startsHold cause then
    s.withDfc { s.dfc with holdTimer := some (s.now + Config.retryHoldMs) }
  else s

/-- R71: fan restart, as one act. A RECOVER without a closed HEAT phase, which no run reaches, only
restarts the fan (log 33). -/
def restartFan (s : State) : State :=
  let s := s.withDfc { s.dfc with fanEn := true, recoveryTimer := none }
  match s.dfc.current with
  | some r =>
    match r.endCause with
    | some cause =>
      let s := changeDefrostQuiet (fileRecord s r cause)
      (s.raise (.defrostPhase .watch .recover (some (.finish cause)))).raise
        (.defrostDone r.reason cause (r.onSeconds.getD 0) (r.wallSeconds.getD 0) r.tAfter)
    | none => changeDefrostQuiet s
  | none => changeDefrostQuiet s
where
  /-- R71 step 7: the state becomes WATCH and the change is handed to IMC, before step 8 raises. -/
  changeDefrostQuiet (s : State) : State :=
    (s.withDfc { s.dfc with state := .watch, current := none }).handover (.dfcStateAtImc .watch)

/-- R70: an EV reading that restarts the fan. -/
def evRestartsFan (status : ChannelStatus) (value : Option Temp) : Bool :=
  match status, value with
  | .ok, some v => decide (v ≤ Config.fanRestartTemp)
  | _, _ => false

/-- R69: DRIP ends, as one act; fan restart may follow in it. -/
def endDrip (s : State) : State :=
  let s := s.withDfc { s.dfc with
    dripTimer := none, cmpInhibit := false, recoveryTimer := some (s.now + Config.recoveryMs) }
  let s := changeDefrost s .recover none
  let ev := s.channel .ev
  if evRestartsFan ev.status ev.value then restartFan s else s

def execDripExpiry (s : State) : Host.Outcome State Fault Refusal :=
  perform .dripExpiry s fun s => onExpiry s.dfc.dripTimer s fun _ s => endDrip s

def execRecoveryExpiry (s : State) : Host.Outcome State Fault Refusal :=
  perform .recoveryExpiry s fun s => onExpiry s.dfc.recoveryTimer s fun _ s => restartFan s

/-- R73: the hold ends at its expiry. -/
def execRetryHoldExpiry (s : State) : Host.Outcome State Fault Refusal :=
  perform .retryHoldExpiry s fun s =>
    onExpiry s.dfc.holdTimer s fun _ s => s.withDfc { s.dfc with holdTimer := none }

/-- R66: an EV hand-over in HEAT. -/
def evInHeat (s : State) (status : ChannelStatus) (value : Option Temp) : State :=
  match status, value with
  | .ok, some v =>
    if s.dfc.fallback = false ∧ s.dfc.defTerm ≤ v then endHeat s .temp else s
  | .ok, none => s
  | _, _ =>
    let s := s.withDfc { s.dfc with fallback := true }
    if Config.fallbackTime ≤ s.dfc.onSeconds then endHeat s .fallbackTime else s

/-- R66, R70: EV hand-overs act in HEAT and in RECOVER only. -/
def takeEv (s : State) (status : ChannelStatus) (value : Option Temp) : State :=
  match s.dfc.state with
  | .heat => evInHeat s status value
  | .recover => if evRestartsFan status value then restartFan s else s
  | .watch | .pending | .drip => s

def execEvAtDfc (status : ChannelStatus) (value : Option Temp) (s : State) :
    Host.Outcome State Fault Refusal :=
  perform (.evAtDfc status value) s fun s => takeEv s status value

/-! ### Abort (R72) -/

/-- R72. -/
def abortDefrost (s : State) : State :=
  match s.dfc.state with
  | .pending =>
    let s := s.withDfc { s.dfc with
      current := none, holdTimer := some (s.now + Config.retryHoldMs) }
    let s := changeDefrost s .watch (some (.finish .aborted))
    answer s 0x41 .ok (le 1 (defrostStateCode s.dfc.state))
  | .heat =>
    let s := endHeat s .aborted
    answer s 0x41 .ok (le 1 (defrostStateCode s.dfc.state))
  | .watch | .drip | .recover =>
    answer s 0x41 .refusedState (le 1 (defrostStateCode s.dfc.state))

def execDefrostAbort (s : State) : Host.Outcome State Fault Refusal :=
  perform .defrostAbort s abortDefrost

/-! ### Requests (R77, R78) -/

/-- A defrost record in the history: 18 bytes, every field present but the gap (R161, R74). -/
def historyBytes (r : DefrostRecord) : List Byte :=
  le 1 (startReasonCode r.reason) ++ le 3 r.frost ++ lePresence 2 r.gap
    ++ leAbsentZero 3 r.tBefore ++ leAbsentZero 3 r.tAfter
    ++ le 2 (r.onSeconds.getD 0) ++ le 2 (r.wallSeconds.getD 0)
    ++ le 1 ((r.endCause.map heatEndCode).getD 0)

/-- The current record, whose counts may be absent (R77, log 18). -/
def currentBytes (r : DefrostRecord) : List Byte :=
  le 1 (startReasonCode r.reason) ++ le 3 r.frost ++ lePresence 2 r.gap
    ++ leAbsentZero 3 r.tBefore ++ leAbsentZero 3 r.tAfter
    ++ lePresence 2 r.onSeconds ++ lePresence 2 r.wallSeconds
    ++ le 1 ((r.endCause.map heatEndCode).getD 0)

/-- A field that the reply carries in one state only. -/
def whenState {α β : Type} [DecidableEq α] (state want : α) (x : β) : Option β :=
  if state = want then some x else none

/-- R77, laid out as R161 gives (log 18). -/
def defrostPayload (s : State) : List Byte :=
  let x := s.dfc
  le 1 (defrostStateCode x.state) ++ [bitsByte [x.cmpInhibit, x.fanEn]]
    ++ leCountPresence (x.holdTimer.map (secondsLeft s.now))
    ++ lePresence 1 (whenState x.state .pending (packBits [decide (s.imc.state = .filling)]))
    ++ lePresence 2 (whenState x.state .heat x.onSeconds)
    ++ lePresence 2 (whenState x.state .heat x.wallSeconds)
    ++ lePresence 1 (whenState x.state .heat (packBits [x.heaterOn, x.fallback]))
    ++ leCountPresence (x.dripTimer.map (secondsLeft s.now))
    ++ leCountPresence
        (x.recoveryTimer.map fun t => (s.now + Config.recoveryMs - t) / Config.second)
    ++ leRecord currentBytes x.current ++ le 2 x.completionCount
    ++ leCountPresence (x.lastCompletion.map fun t => (s.now - t) / Config.minute)

def execDefrostStatus (s : State) : Host.Outcome State Fault Refusal :=
  perform .defrostStatus s fun s => answer s 0x42 .ok (defrostPayload s)

/-- R78: up to three records from the index toward older ones. -/
def readHistory (s : State) (index : Byte) : State :=
  let x := s.dfc
  let head := le 2 x.completionCount ++ le 1 x.history.length
  if index.toNat ≤ 7 then
    answer s 0x43 .ok (head ++ ((x.history.drop index.toNat).take 3).flatMap historyBytes)
  else answer s 0x43 .badParam head

def execReadDefrostHistory (index : Byte) (s : State) : Host.Outcome State Fault Refusal :=
  perform (.readDefrostHistory index) s fun s => readHistory s index

end Sys2Proof.Machine
end

