-- ==== Sys2Proof/Machine/Dsc.lean ====
section
/-! DEFINITION. DSC (Section 6): the dispense queue, activation, stopping and completing, the paddle, the
chilled estimate, and DSC's requests. -/

namespace Sys2Proof.Machine

open Sys2Proof

/-! ### Entries (R107) -/

/-- R107: an entry as it is created. -/
def freshEntry (tag : Byte) (kind : EntryKind) (target : Option Nat) (chilledOnly : Bool) : Entry :=
  { tag := tag, kind := kind, target := target, chilledOnly := chilledOnly, state := .queued,
    valve := none, openSeconds := 0, stopCause := none, charged := 0, warm := false }

/-- R107: an entry is active in ACTIVE_WAIT and in ACTIVE_FLOW. -/
def entryActive (e : Entry) : Bool :=
  match e.state with
  | .queued => false
  | .activeWait | .activeFlow => true

/-- The active entry, which is the oldest (R107). -/
def activeEntry (q : List Entry) : Option Entry :=
  match q with
  | e :: _ => if entryActive e then some e else none
  | [] => none

/-- The entry in ACTIVE_FLOW, if there is one. -/
def flowingEntry (q : List Entry) : Option Entry :=
  match q with
  | e :: _ => if e.state = .activeFlow then some e else none
  | [] => none

/-- A change of the oldest entry. -/
def onHead (f : Entry → Entry) (q : List Entry) : List Entry :=
  match q with
  | e :: rest => f e :: rest
  | [] => []

def State.withQueue (s : State) (q : List Entry) : State := s.withDsc { s.dsc with queue := q }

def State.withView (s : State) (v : ClaimView) : State := s.withDsc { s.dsc with claimView := v }

/-- What a completion of `e` with `cause` leaves (R114, R122). -/
def completionOf (e : Entry) (cause : Completion) : CompletionRecord :=
  { tag := e.tag, kind := e.kind, target := e.target, charged := e.charged, cause := cause,
    warm := e.warm }

/-! ### Completion (R114) -/

/-- R114: the oldest entry completes, as one act; the activation test that ends the act fails on the
spacing timer it has started. Step 4 reads PADDLE's debounced state as SCAN last handed it (log 47). -/
def completeHead (s : State) (e : Entry) (cause : Completion) : State :=
  let s := s.withDsc { s.dsc with
    queue := s.dsc.queue.tail, last := some (completionOf e cause), flowTimer := none }
  let s := s.raise (.dispenseDone (completionOf e cause))
  s.withDsc { s.dsc with
    latch := s.dsc.latch || (decide (e.kind = .paddle) && s.dsc.paddle),
    spacingTimer := some (s.now + Config.spacingMs) }

/-! ### Activation (R109) -/

/-- R109: a chilled-only portion with c below its target. -/
def tooWarm (c : Nat) (e : Entry) : Bool :=
  e.chilledOnly && decide (c < e.target.getD 0)

/-- R109: the DISP claim is made for the oldest entry, which enters ACTIVE_WAIT. -/
def claimDispense (s : State) (e : Entry) : State :=
  let s := s.handover (.claimMade .disp e.target 0 0)
  s.withDsc { s.dsc with
    claimView := .waiting, queue := onHead (fun e => { e with state := .activeWait }) s.dsc.queue }

/-- R109: nothing holds activation back. -/
def activationOpen (x : Dsc) : Bool :=
  (activeEntry x.queue).isNone && x.spacingTimer.isNone && !x.latch && decide (x.claimView = .none)

/-- R109: the activation test. -/
def testActivation (s : State) : State :=
  if activationOpen s.dsc then
    match s.dsc.queue with
    | e :: _ => if tooWarm s.dsc.c e then completeHead s e .notChilled else claimDispense s e
    | [] => s
  else s

/-! ### Stopping (R113) -/

/-- R113: the stop cause is written and the claim is released. -/
def stopFlow (s : State) (cause : Completion) : State :=
  (s.handover (.claimReleased .disp)).withQueue
    (onHead (fun e => { e with stopCause := some cause }) s.dsc.queue)

/-- R113: no release is made; only a cancel writes over the stop cause that stands. -/
def restop (s : State) (cause : Completion) : State :=
  if cause = .cancelled then
    s.withQueue (onHead (fun e => { e with stopCause := some cause }) s.dsc.queue)
  else s

/-- R113: DSC stops the active entry `e` with a cause. -/
def stopEntry (s : State) (e : Entry) (cause : Completion) : State :=
  match e.state with
  | .activeWait =>
    completeHead ((s.handover (.claimWithdrawn .disp)).withView .withdrawing) e cause
  | .activeFlow =>
    if e.valve = some .opened ∧ e.stopCause = none then stopFlow s cause else restop s cause
  | .queued => s

/-! ### Accepting a portion (R108) -/

/-- R108 tests 1 to 4, in their order. -/
def portionRefusal (q : List Entry) (tag options : Byte) : Option Result :=
  if tag = 0 then some .badParam
  else if 1 < options.toNat then some .badParam
  else if q.any (fun e => decide (e.tag = tag)) then some .duplicateTag
  else if Config.dispenseSlots ≤ q.length then some .queueFull
  else none

/-- R108 test 5: the stored target. -/
def portionTarget (volume : Nat) : Nat := max Config.portionMin (min Config.portionMax volume)

/-- R108: the fields of the reply. Target, position and state are absent where there are none, and all
three are absent in a refusal, also in DUPLICATE_TAG, where an entry of the tag stands (log 18). -/
def portionPayload (q : List Entry) (tag : Byte) (target : Option Nat) : List Byte :=
  let position := q.findIdx? fun e => decide (e.tag = tag)
  let entry := q.find? fun e => decide (e.tag = tag)
  [tag] ++ leAbsentZero 2 target
    ++ lePresence 1 (if target.isSome then position else none)
    ++ le 1 (entryStateCode (if target.isSome then entry.map (·.state) else none))
    ++ le 1 q.length

/-- R108. A refused request leaves the queue unchanged; it has stored no target and accepted no entry,
so its reply carries target, position and state as absent (log 18). -/
def dispensePortion (s : State) (tag : Byte) (volume : BitVec 16) (options : Byte) : State :=
  match portionRefusal s.dsc.queue tag options with
  | some r => answer s 0x60 r (portionPayload s.dsc.queue tag none)
  | none =>
    let target := portionTarget volume.toNat
    let e := freshEntry tag .portion (some target) (decide (options = 1))
    let s := testActivation (s.withQueue (s.dsc.queue ++ [e]))
    answer s 0x60 (if target = volume.toNat then .ok else .clamped)
      (portionPayload s.dsc.queue tag (some target))

def execDispensePortion (tag : Byte) (volume : BitVec 16) (options : Byte) (s : State) :
    Host.Outcome State Fault Refusal :=
  perform (.dispensePortion tag volume options) s fun s => dispensePortion s tag volume options

/-! ### Spacing and claim hand-overs (R109, R110, R112, R114) -/

/-- R109: the spacing timer expires. -/
def execSpacingExpiry (s : State) : Host.Outcome State Fault Refusal :=
  perform .spacingExpiry s fun s =>
    onExpiry s.dsc.spacingTimer s fun _ s =>
      testActivation (s.withDsc { s.dsc with spacingTimer := none })

/-- R110: an entry in ACTIVE_WAIT gets the path; with none the claim is released at once. -/
def takeDispGrant (s : State) : State :=
  match activeEntry s.dsc.queue with
  | some e =>
    if e.state = .activeWait then
      s.withDsc { s.dsc with
        queue := onHead (fun e => { e with state := .activeFlow, valve := some .opened }) s.dsc.queue,
        claimView := .granted, flowTimer := some (s.now + Config.second) }
    else (s.handover (.claimReleased .disp)).withView .granted
  | none => (s.handover (.claimReleased .disp)).withView .granted

def execGrantedAtDsc (s : State) : Host.Outcome State Fault Refusal :=
  perform .grantedAtDsc s takeDispGrant

/-- R112: CLOSED shuts the valve view of the entry in ACTIVE_FLOW and stops the flow-second timer. -/
def takeDispClosed (s : State) : State :=
  match flowingEntry s.dsc.queue with
  | some _ =>
    s.withDsc { s.dsc with
      queue := onHead (fun e => { e with valve := some .closed }) s.dsc.queue, flowTimer := none }
  | none => s

def execClosedAtDsc (cause : CloseCause) (s : State) : Host.Outcome State Fault Refusal :=
  perform (.closedAtDsc cause) s takeDispClosed

/-- TABLE 6-2: the completion cause, none for the close causes the table has no row for. -/
def completionCause (stop : Option Completion) (cause : CloseCause) : Option Completion :=
  match stop, cause with
  | some c, _ => some c
  | none, .closePoint => some .done
  | none, .noFlow => some .noFlow
  | none, .sag => some .supplySag
  | none, .released => none
  | none, .preempted => none

/-- R110, R114: SETTLED sets the view to NONE; an entry in ACTIVE_FLOW completes. A close cause that
TABLE 6-2 has no row for completes it with a free cause (log 20). -/
def takeDispSettled (s : State) (cause : CloseCause) : State :=
  let s := s.withView .none
  match flowingEntry s.dsc.queue with
  | some e =>
    match completionCause e.stopCause cause with
    | some c => completeHead s e c
    | none => completeHead s.drawFree e (Config.freeCompletion s.freeCount)
  | none => testActivation s

def execSettledAtDsc (cause : CloseCause) (total : Nat) (s : State) :
    Host.Outcome State Fault Refusal :=
  perform (.settledAtDsc cause total) s fun s => takeDispSettled s cause

/-- R109, R113: WITHDRAWN sets the view to NONE, and the activation test is made. -/
def execWithdrawnAtDsc (s : State) : Host.Outcome State Fault Refusal :=
  perform .withdrawnAtDsc s fun s => testActivation (s.withView .none)

/-! ### Millilitres and flow seconds (R111, R112) -/

/-- R111: a millilitre added to an entry. -/
def chargeEntry (warm : Bool) (e : Entry) : Entry :=
  { e with charged := satAdd Config.max16 e.charged 1, warm := e.warm || warm }

/-- R111: a millilitre added to the last completion record. -/
def chargeRecord (warm : Bool) (r : CompletionRecord) : CompletionRecord :=
  { r with charged := satAdd Config.max16 r.charged 1, warm := r.warm || warm }

/-- R111: a millilitre that finds c at 0 is warm; any other lowers c by 1. -/
def takeDispMillilitre (s : State) : State :=
  let warm := decide (s.dsc.c = 0)
  let s := s.withDsc { s.dsc with c := s.dsc.c - 1 }
  match flowingEntry s.dsc.queue with
  | some _ => s.withQueue (onHead (chargeEntry warm) s.dsc.queue)
  | none => s.withDsc { s.dsc with last := s.dsc.last.map (chargeRecord warm) }

def execMillilitreAtDsc (s : State) : Host.Outcome State Fault Refusal :=
  perform .millilitreAtDsc s takeDispMillilitre

/-- R112: the valve-open limit of an entry. -/
def openLimit (paddleMax : Nat) : EntryKind → Nat
  | .portion => Config.portionLimit
  | .paddle => paddleMax

/-- R112: a flow second is counted, and at the limit the entry is stopped. The timer runs while the
valve view is OPEN only. -/
def takeFlowSecond (s : State) (due : Nat) : State :=
  match flowingEntry s.dsc.queue with
  | some e =>
    if e.valve = some .opened then
      let e' := { e with openSeconds := satAdd Config.portionLimit e.openSeconds 1 }
      let s := s.withDsc { s.dsc with
        queue := onHead (fun _ => e') s.dsc.queue, flowTimer := some (due + Config.second) }
      if openLimit s.dsc.paddleMax e'.kind ≤ e'.openSeconds then stopEntry s e' .runawayLimit else s
    else s.withDsc { s.dsc with flowTimer := none }
  | none => s.withDsc { s.dsc with flowTimer := none }

def execFlowSecond (s : State) : Host.Outcome State Fault Refusal :=
  perform .flowSecond s fun s => onExpiry s.dsc.flowTimer s fun due s => takeFlowSecond s due

/-! ### Cancel (R115) -/

/-- R115: the reply carries the tag and the state in which the cancel found the entry, absent for
UNKNOWN_TAG and, by log 18, for BAD_PARAM. -/
def cancelPayload (tag : Byte) (found : Option EntryState) : List Byte :=
  [tag] ++ le 1 (entryStateCode found)

/-- R115: a QUEUED entry is removed; the spacing timer and the last completion record stay. -/
def removeQueued (s : State) (e : Entry) : State :=
  (s.withQueue (s.dsc.queue.filter fun x => !decide (x.tag = e.tag))).raise
    (.dispenseDone (completionOf e .cancelled))

/-- R115. Tag 0 finds no entry, so the BAD_PARAM reply carries the state as absent (log 18). -/
def dispenseCancel (s : State) (tag : Byte) : State :=
  if tag = 0 then answer s 0x61 .badParam (cancelPayload tag none)
  else
    match s.dsc.queue.find? (fun e => decide (e.tag = tag)) with
    | none => answer s 0x61 .unknownTag (cancelPayload tag none)
    | some e =>
      let s' := if e.state = .queued then removeQueued s e else stopEntry s e .cancelled
      answer s' 0x61 .ok (cancelPayload tag (some e.state))

def execDispenseCancel (tag : Byte) (s : State) : Host.Outcome State Fault Refusal :=
  perform (.dispenseCancel tag) s fun s => dispenseCancel s tag

/-! ### The paddle (R117, R118) -/

/-- PADDLE as SCAN hands it (log 47). -/
def State.withPaddle (s : State) (asserted : Bool) : State :=
  s.withDsc { s.dsc with paddle := asserted }

/-- R117: a press, PADDLE now asserted, either starts a paddle dispense or sets the latch. -/
def pressPaddle (s : State) : State :=
  if s.dsc.queue = [] ∧ s.dsc.claimView = .none then
    let e := freshEntry 0 .paddle none false
    claimDispense (s.withQueue [e]) e
  else
    let s := s.withDsc { s.dsc with latch := true }
    match activeEntry s.dsc.queue with
    | some e => if e.kind = .portion then stopEntry s e .userStop else s
    | none => s

def execPaddleAssertion (s : State) : Host.Outcome State Fault Refusal :=
  perform .paddleAssertion s fun s => pressPaddle (s.withPaddle true)

/-- R118: the cause with which a release stops an active paddle entry, none where it stops none. -/
def releaseStop (e : Entry) : Option Completion :=
  match e.kind, e.state with
  | .paddle, .activeWait => some .userStop
  | .paddle, .activeFlow =>
    if e.valve = some .opened ∧ e.stopCause = none then some .done else none
  | .paddle, .queued => none
  | .portion, _ => none

/-- R118: a release, PADDLE now released. -/
def releasePaddle (s : State) : State :=
  if s.dsc.latch then testActivation (s.withDsc { s.dsc with latch := false })
  else
    match activeEntry s.dsc.queue with
    | some e =>
      match releaseStop e with
      | some cause => stopEntry s e cause
      | none => s
    | none => s

def execPaddleRelease (s : State) : Host.Outcome State Fault Refusal :=
  perform .paddleRelease s fun s => releasePaddle (s.withPaddle false)

/-! ### The chilled estimate (R120) -/

/-- R120 step 2: the tank's reading corrects the estimate. -/
def correctEstimate (wt : ChannelRec) (vTank c : Nat) : Nat :=
  match wt.status, wt.value with
  | .ok, some v =>
    if v ≤ Config.tankCold then vTank else if Config.tankWarm ≤ v then 0 else c
  | _, _ => c

/-- R120: the recovery minute, as one act. -/
def takeRecovery (s : State) (due : Nat) : State :=
  s.withDsc { s.dsc with
    c := correctEstimate (s.channel .wt) s.dsc.vTank (satAdd s.dsc.vTank s.dsc.c s.dsc.chillRate),
    minuteTimer := some (due + Config.minute) }

def execRecoveryMinute (s : State) : Host.Outcome State Fault Refusal :=
  perform .recoveryMinute s fun s => onExpiry s.dsc.minuteTimer s fun due s => takeRecovery s due

/-! ### DISPENSE STATUS (R123) -/

/-- TABLE 6-1, in the order of R123; chilled-only and warm share one byte. -/
def entryBytes (e : Entry) : List Byte :=
  [e.tag] ++ le 1 (entryKindCode e.kind) ++ leAbsentZero 2 e.target
    ++ [bitsByte [e.chilledOnly, e.warm]] ++ le 1 (entryStateCode (some e.state))
    ++ le 1 (valveViewCode e.valve) ++ le 1 e.openSeconds ++ le 1 (completionCode e.stopCause)
    ++ le 2 e.charged

/-- R114, in the order of R123. -/
def completionBytes (r : CompletionRecord) : List Byte :=
  [r.tag] ++ le 1 (entryKindCode r.kind) ++ leAbsentZero 2 r.target ++ le 2 r.charged
    ++ le 1 (completionCode (some r.cause)) ++ [bitsByte [r.warm]]

/-- R123, laid out as R161 gives (log 18). -/
def dispensePayload (now : Nat) (x : Dsc) : List Byte :=
  le 1 x.queue.length ++ x.queue.flatMap entryBytes ++ le 1 (claimViewCode x.claimView)
    ++ le 2 x.c ++ le 2 x.vTank ++ [bitsByte [x.latch]]
    ++ leCountPresence (x.spacingTimer.map (secondsLeft now)) ++ leRecord completionBytes x.last

def execDispenseStatus (s : State) : Host.Outcome State Fault Refusal :=
  perform .dispenseStatus s fun s => answer s 0x62 .ok (dispensePayload s.now s.dsc)

end Sys2Proof.Machine
end

