-- ==== Sys2Proof/Machine/Fest.lean ====
section
/-! DEFINITION. FEST (Section 3): the accumulation minute, the defrost request, the adaptation of the
threshold, and FROST STATUS. -/

namespace Sys2Proof.Machine

open Sys2Proof

/-- TABLE 3-3: the band of an ambient channel. A faulted channel's held value is not used. -/
def ambientBand (am : ChannelRec) : Band :=
  match am.status, am.value with
  | .ok, some v => if v < 240 then .low else if v < 320 then .mid else .high
  | _, _ => .notOk

/-- TABLE 3-3: the weight of a band. -/
def bandWeight (x : Fest) : Band → Nat
  | .low => x.wLo
  | .mid => x.wMid
  | .high => x.wHi
  | .notOk => x.wMid

/-- R46: the load a minute adds. -/
def deltaFrost (x : Fest) (kA r df dr w : Nat) : Nat :=
  r * kA + df * x.wFzDoor + dr * x.wFfDoor + w * x.wFill

/-- R47: the states whose minutes are frozen. -/
def minuteFrozen : DefrostState → Bool
  | .heat | .drip | .recover => true
  | .watch | .pending => false

/-- R50: the defrost request the comparison calls for. -/
def festOffer (x : Fest) (f e : Nat) : Option FestReason :=
  if x.backstop ≤ e then some .backstop
  else if x.t ≤ f ∧ x.minGap ≤ e then some .threshold
  else none

/-- R43: what the minute takes and does, as the last minute record tells it. -/
def minuteRecord (s : State) : MinuteRecord :=
  let x := s.fest
  let frozen := minuteFrozen s.dfc.state
  let band := ambientBand (s.channel .am)
  let kA := bandWeight x band
  let r := s.scan.cmpSeconds
  let df := s.scan.fzSeconds
  let dr := s.scan.ffSeconds
  let w := x.fillWater
  let d := if frozen then 0 else deltaFrost x kA r df dr w
  { frozen := frozen, r := r, df := df, dr := dr, w := w,
    band := if frozen then none else some band,
    kA := if frozen then none else some kA,
    deltaF := d,
    offer := festOffer x (satAdd Config.fMax x.f d) (satAdd Config.max16 x.e 1) }

/-- R50: the request is handed to DFC with its reason and F as it stands after the minute. -/
def handRequest (s : State) (offer : Option FestReason) (f : Nat) : State :=
  match offer with
  | some reason => s.handover (.defrostRequest reason f)
  | none => s

/-- R15, R43: the accumulation minute, as one act. -/
def takeMinute (s : State) (due : Nat) : State :=
  let m := minuteRecord s
  let f := satAdd Config.fMax s.fest.f m.deltaF
  let s := s.withScan { s.scan with fzSeconds := 0, ffSeconds := 0, cmpSeconds := 0 }
  let s := s.withFest { s.fest with
    f := f, e := satAdd Config.max16 s.fest.e 1, fillWater := 0, last := some m,
    minuteTimer := some (due + Config.minute) }
  handRequest s m.offer f

def execAccumulationMinute (s : State) : Host.Outcome State Fault Refusal :=
  perform .accumulationMinute s fun s =>
    onExpiry s.fest.minuteTimer s fun due s => takeMinute s due

/-- R44. -/
def execFillWaterMillilitre (s : State) : Host.Outcome State Fault Refusal :=
  perform .fillWaterMillilitre s fun s =>
    s.withFest { s.fest with fillWater := satAdd 1000 s.fest.fillWater 1 }

/-- R42: T clamped to its range. -/
def clampT (t : Nat) : Nat := max Config.tMin (min Config.tMax t)

/-- TABLE 3-4: the new threshold. -/
def adaptedT (t heatTgt : Nat) (cause : HeatEnd) (h : Nat) : Nat :=
  match cause with
  | .temp =>
    if h < heatTgt * 3 / 4 then clampT (t + t / 8)
    else if heatTgt * 5 / 4 < h then clampT (t - t / 8)
    else t
  | .maxTime => clampT (t - t / 4)
  | .fallbackTime | .aborted | .starved => t

/-- TABLE 3-4: the end causes that clear the frost load; R49: those that make a completion
effective. -/
def effectiveEnd : HeatEnd → Bool
  | .temp | .maxTime | .fallbackTime => true
  | .aborted | .starved => false

/-- R52: the HEAT end adapts T, sets or keeps F, and hands T before and after back to DFC. -/
def takeHeatEnd (s : State) (cause : HeatEnd) (h : Nat) : State :=
  let t := adaptedT s.fest.t s.fest.heatTgt cause h
  let before := s.fest.t
  let s := s.withFest { s.fest with t := t, f := if effectiveEnd cause then 0 else s.fest.f }
  s.handover (.tHandBack before t)

def execHeatEndAtFest (cause : HeatEnd) (h : Nat) (s : State) : Host.Outcome State Fault Refusal :=
  perform (.heatEndAtFest cause h) s fun s => takeHeatEnd s cause h

/-- R49: an effective completion sets E to 0. -/
def execCompletionAtFest (cause : HeatEnd) (s : State) : Host.Outcome State Fault Refusal :=
  perform (.completionAtFest cause) s fun s =>
    s.withFest { s.fest with e := if effectiveEnd cause then 0 else s.fest.e }

/-- TABLE 3-2, in field order. -/
def minuteBytes (m : MinuteRecord) : List Byte :=
  [bitsByte [m.frozen]] ++ le 1 m.r ++ le 1 m.df ++ le 1 m.dr ++ le 2 m.w ++ le 1 (bandCode m.band)
    ++ lePresence 1 m.kA ++ le 2 m.deltaF ++ le 1 (offerCode m.offer)

/-- R56. -/
def frostPayload (x : Fest) : List Byte :=
  le 3 x.f ++ le 3 x.t ++ le 2 x.e ++ le 2 ((x.last.map (·.deltaF)).getD 0)
    ++ leRecord minuteBytes x.last ++ le 2 x.fillWater

def execFrostStatus (s : State) : Host.Outcome State Fault Refusal :=
  perform .frostStatus s fun s => answer s 0x30 .ok (frostPayload s.fest)

end Sys2Proof.Machine
end

