-- ==== Sys2Proof/Machine/Imc.lean ====
section
/-! DEFINITION. IMC (Section 5): enabling and parking, freezing, harvest, filling, disabling, and IMC's
requests. -/

namespace Sys2Proof.Machine

open Sys2Proof

/-! ### State changes, records and loads -/

/-- R82: IMC changes its state: the change is handed to DFC and ICE_STATE is raised. -/
def changeIce (s : State) (new : IceState) : State :=
  let prev := s.imc.state
  let s := s.withImc { s.imc with state := new }
  (s.handover (.imcStateAtDfc new)).raise (.iceState new prev)

/-- TABLE 5-2: a batch record as it is opened. -/
def freshBatch : BatchRecord :=
  { fillTarget := none, charged := 0, fillEnd := none, preemptions := 0, freezeSeconds := 0,
    creditAtHarvest := none, freezeTarget := none, forced := false, unknownFill := false,
    heaterTimeout := false, rakeRetried := false }

/-- R83, R97: a record is opened; the freeze credit and the fill seconds are 0. -/
def openBatch (s : State) (b : BatchRecord) : State :=
  s.withImc { s.imc with batch := some b, credit := 0, fillSeconds := 0 }

/-- A change of the current batch record. -/
def onBatch (s : State) (f : BatchRecord → BatchRecord) : State :=
  s.withImc { s.imc with batch := s.imc.batch.map f }

/-- R87: the product, limited to 65,535. -/
def freezeTargetOf (ml kFreeze : Nat) : Nat := min Config.max16 (ml * kFreeze)

/-- The debounced state of RAKE_HOME as SCAN holds it at that moment (log 46). -/
def rakeHomeAsserted (s : State) : Bool := s.switchAsserted .rakeHome

/-! ### Entries into states (R85, R86, R90, R92) -/

/-- R86: FREEZING entry starts the credit interval. -/
def enterFreezing (s : State) : State :=
  let s := changeIce s .freezing
  s.withImc { s.imc with creditTimer := some (s.now + Config.creditMs) }

/-- R85: PARK entry; it succeeds at once when the rake is home (log 46). -/
def enterPark (s : State) : State :=
  let s := changeIce s .park
  if rakeHomeAsserted s then enterFreezing s
  else
    let s := s.handover (.loadRequest .rakeMtr 100)
    s.withImc { s.imc with rakeOnSeconds := 0, rakeTimer := some (s.now + Config.second) }

/-- R90: HARVEST_HEAT entry. -/
def enterHarvestHeat (s : State) : State :=
  let s := onBatch s fun b => { b with creditAtHarvest := some s.imc.credit }
  let s := s.handover (.loadRequest .moldHtr 100)
  let s := s.withImc { s.imc with
    heatOnSeconds := 0, moldOn := false, harvestTimer := some (s.now + Config.second) }
  changeIce s .harvestHeat

/-- R92: HARVEST_RAKE entry, with RAKE_HOME as SCAN holds it (log 46). -/
def enterHarvestRake (s : State) : State :=
  let s := s.handover (.loadRequest .rakeMtr 100)
  let s := s.withImc { s.imc with
    rakeOnSeconds := 0, rakeTimer := some (s.now + Config.second),
    leftHome := !rakeHomeAsserted s }
  changeIce s .harvestRake

/-- R101: OFF entry releases every load, stops the timers and clears the disable pending mark. -/
def enterOff (s : State) : State :=
  let s := releaseLoad (releaseLoad (releaseLoad s .moldHtr) .rakeMtr) .fillTubeHtr
  let s := s.withImc { s.imc with
    creditTimer := none, harvestTimer := none, rakeTimer := none, fillTimer := none,
    retryTimer := none, noWaterTimer := none, disablePending := false }
  changeIce s .off

/-! ### Enabling (R84) -/

/-- R84 step 2, R102: FILL_TUBE_HTR is requested at the enable from OFF, unless the duty is 0. -/
def requestTube (s : State) : State :=
  if 0 < s.imc.tubeDuty then s.handover (.loadRequest .fillTubeHtr s.imc.tubeDuty) else s

/-- R84: the enable from OFF or STALLED. -/
def beginEnable (s : State) : State :=
  let wasOff := decide (s.imc.state = .off)
  let s := openBatch s { freshBatch with
    unknownFill := true, freezeTarget := some (freezeTargetOf s.imc.fillTgt s.imc.kFreeze) }
  let s := s.withImc { s.imc with disablePending := false }
  let s := if wasOff then requestTube s else s
  if rakeHomeAsserted s then enterFreezing s else enterPark s

/-- R84. -/
def enableIce (s : State) : State :=
  match s.imc.state with
  | .off | .stalled => beginEnable s
  | .harvestHeat | .harvestRake => s.withImc { s.imc with disablePending := false }
  | .park | .freezing | .heldFull | .rakeRetryWait | .fillWait | .filling | .fillPaused => s

/-- The reply of ICE ENABLE, ICE DISABLE and ICE FORCE HARVEST: IMC's state. -/
def answerIce (s : State) (kind : Byte) (r : Result) : State :=
  answer s kind r (le 1 (iceStateCode s.imc.state))

def execIceEnable (s : State) : Host.Outcome State Fault Refusal :=
  perform .iceEnable s fun s => answerIce (enableIce s) 0x50 .ok

/-! ### Freezing and the harvest point (R86 to R89) -/

/-- R86: the credit of one interval. A held value is not used. -/
def creditStep (status : ChannelStatus) (value : Option Temp) : Nat :=
  match status, value with
  | .ok, some v => (-20 - v).toNat
  | _, _ => 60

/-- R88: IM is cold enough, or is not OK. -/
def moldReady (status : ChannelStatus) (value : Option Temp) : Bool :=
  match status, value with
  | .ok, some v => decide (v ≤ Config.harvestColdTemp)
  | .ok, none => false
  | _, _ => true

/-- R88: the credit is at or above the batch's freeze target. -/
def creditReached (x : Imc) : Bool :=
  match x.batch with
  | some b =>
    match b.freezeTarget with
    | some t => decide (t ≤ x.credit)
    | none => false
  | none => false

/-- R88: the test for the harvest point, with BIN_BEAM as SCAN holds it at that moment (log 46). -/
def testHarvest (s : State) (status : ChannelStatus) (value : Option Temp) : State :=
  if creditReached s.imc && moldReady status value then
    let s := s.withImc { s.imc with creditTimer := none }
    if s.switchAsserted .binBeam then changeIce s .heldFull else enterHarvestHeat s
  else s

/-- R86: a credit interval, as one act. -/
def takeCredit (s : State) (due : Nat) : State :=
  let im := s.channel .im
  let s := s.withImc { s.imc with
    credit := satAdd Config.max16 s.imc.credit (creditStep im.status im.value),
    creditTimer := some (due + Config.creditMs) }
  let s := onBatch s fun b => { b with freezeSeconds := satAdd Config.max16 b.freezeSeconds 10 }
  testHarvest s im.status im.value

/-- The interval runs in FREEZING only (R86). -/
def execCreditInterval (s : State) : Host.Outcome State Fault Refusal :=
  perform .creditInterval s fun s =>
    onExpiry s.imc.creditTimer s fun due s =>
      if s.imc.state = .freezing then takeCredit s due
      else s.withImc { s.imc with creditTimer := none }

/-- R88: in HELD_FULL a release of the beam moves IMC into HARVEST_HEAT. -/
def execBinBeamAtImc (asserted : Bool) (s : State) : Host.Outcome State Fault Refusal :=
  perform (.binBeamAtImc asserted) s fun s =>
    if s.imc.state = .heldFull ∧ asserted = false then enterHarvestHeat s else s

/-- R89. -/
def forceHarvest (s : State) : State :=
  if s.imc.state = .freezing ∨ s.imc.state = .heldFull then
    let s := s.withImc { s.imc with creditTimer := none }
    let s := onBatch s fun b => { b with forced := true }
    answerIce (enterHarvestHeat s) 0x52 .ok
  else answerIce s 0x52 .refusedState

def execIceForceHarvest (s : State) : Host.Outcome State Fault Refusal :=
  perform .iceForceHarvest s forceHarvest

/-! ### Harvest heat (R90, R91) -/

/-- R91: HARVEST_HEAT ends; MOLD_HTR is released and IMC enters HARVEST_RAKE. -/
def endHarvestHeat (s : State) : State :=
  let s := s.withImc { s.imc with harvestTimer := none }
  enterHarvestRake (releaseLoad s .moldHtr)

/-- R91: an IM hand-over in HARVEST_HEAT. -/
def imInHarvest (s : State) (status : ChannelStatus) (value : Option Temp) : State :=
  match status, value with
  | .ok, some v => if Config.harvestWarmTemp ≤ v then endHarvestHeat s else s
  | .ok, none => s
  | _, _ => if Config.harvestHeatNotOk ≤ s.imc.heatOnSeconds then endHarvestHeat s else s

/-- R88, R91: IM hand-overs act in FREEZING and in HARVEST_HEAT only. -/
def takeIm (s : State) (status : ChannelStatus) (value : Option Temp) : State :=
  match s.imc.state with
  | .freezing => testHarvest s status value
  | .harvestHeat => imInHarvest s status value
  | .off | .park | .heldFull | .harvestRake | .rakeRetryWait | .fillWait | .filling | .fillPaused
  | .stalled => s

def execImAtImc (status : ChannelStatus) (value : Option Temp) (s : State) :
    Host.Outcome State Fault Refusal :=
  perform (.imAtImc status value) s fun s => takeIm s status value

/-- R90, R91: a harvest second is counted, and then the limits are tested. -/
def takeHarvestSecond (s : State) (due : Nat) : State :=
  let s := s.withImc { s.imc with
    heatOnSeconds := if s.imc.moldOn then s.imc.heatOnSeconds + 1 else s.imc.heatOnSeconds,
    harvestTimer := some (due + Config.second) }
  if Config.harvestHeatMax ≤ s.imc.heatOnSeconds then
    endHarvestHeat (onBatch s fun b => { b with heaterTimeout := true })
  else if Config.harvestHeatNotOk ≤ s.imc.heatOnSeconds ∧ (s.channel .im).status ≠ .ok then
    endHarvestHeat s
  else s

def execHarvestSecond (s : State) : Host.Outcome State Fault Refusal :=
  perform .harvestSecond s fun s =>
    onExpiry s.imc.harvestTimer s fun due s =>
      if s.imc.state = .harvestHeat then takeHarvestSecond s due
      else s.withImc { s.imc with harvestTimer := none }

/-- R90. -/
def execMoldOnAtImc (isOn : Bool) (s : State) : Host.Outcome State Fault Refusal :=
  perform (.moldOnAtImc isOn) s fun s => s.withImc { s.imc with moldOn := isOn }

/-- R85. -/
def execRakeOnAtImc (isOn : Bool) (s : State) : Host.Outcome State Fault Refusal :=
  perform (.rakeOnAtImc isOn) s fun s => s.withImc { s.imc with rakeOn := isOn }

/-! ### The fill wanted condition and the fill decision (R95, R100) -/

/-- R95: FZ allows a fill. -/
def fzAllows (startTemp : Temp) (status : ChannelStatus) (value : Option Temp) : Bool :=
  match status, value with
  | .ok, some v => decide (v ≤ startTemp)
  | .ok, none => false
  | _, _ => true

/-- R95: DFC allows a fill: it is in WATCH, PENDING or RECOVER. -/
def defrostAllows : DefrostState → Bool
  | .watch | .pending | .recover => true
  | .heat | .drip => false

/-- R95: the fill wanted condition, with FZ as handed or as SCAN last set it and DFC's present state
(log 14). The no-water hold applies in FILL_WAIT only. -/
def fillWanted (s : State) (status : ChannelStatus) (value : Option Temp) : Bool :=
  fzAllows s.imc.startTemp status value && defrostAllows s.dfc.state
    && !(decide (s.imc.state = .fillWait) && s.imc.noWaterTimer.isSome)

/-- The remaining volume of a paused fill (R95). -/
def remainingFill (x : Imc) : Nat :=
  match x.batch with
  | some b => b.fillTarget.getD 0 - b.charged
  | none => 0

/-- R98: the fill end cause is written, the freeze target is formed from the mL charged (R87), and
IMC enters FREEZING. -/
def freezeFill (s : State) (cause : FillEnd) : State :=
  let k := s.imc.kFreeze
  enterFreezing (onBatch s fun b =>
    { b with fillEnd := some cause, freezeTarget := some (freezeTargetOf b.charged k) })

/-- R95: the claim IMC makes, from FILL_WAIT or from FILL_PAUSED. -/
def claimFill (s : State) : State :=
  let b := s.imc.batch.getD freshBatch
  let c := if s.imc.state = .fillWait then
      Instr.claimMade .ice (some s.imc.fillTgt) b.charged 0
    else Instr.claimMade .ice b.fillTarget b.charged b.preemptions
  (s.handover c).withImc { s.imc with claimView := .waiting }

/-- R95: IMC withdraws its claim. -/
def withdrawFill (s : State) : State :=
  (s.handover (.claimWithdrawn .ice)).withImc { s.imc with claimView := .withdrawing }

/-- R95: the fill decision, in FILL_WAIT and FILL_PAUSED; elsewhere nothing is done. -/
def decideFill (s : State) (status : ChannelStatus) (value : Option Temp) : State :=
  if s.imc.state = .fillWait ∨ s.imc.state = .fillPaused then
    match fillWanted s status value, s.imc.claimView with
    | true, .none =>
      if s.imc.state = .fillPaused ∧ remainingFill s.imc ≤ Config.resumeMinimum then freezeFill s .done
      else claimFill s
    | false, .waiting => withdrawFill s
    | _, _ => s
  else s

/-- The fill decision with FZ as SCAN last set it. -/
def decideFillNow (s : State) : State :=
  decideFill s (s.channel .fz).status (s.channel .fz).value

/-- R94, R98: a new batch enters FILL_WAIT, and the condition is evaluated on entry. -/
def enterFillWait (s : State) : State := decideFillNow (changeIce s .fillWait)

/-- R99: an interrupted fill: IMC enters FILL_PAUSED with its claim view WAITING, the fill-second timer
stopped, and the condition is evaluated on entry. -/
def pauseFill (s : State) : State :=
  let s := s.withImc { s.imc with claimView := .waiting, fillTimer := none }
  decideFillNow (changeIce s .fillPaused)

/-! ### Rake (R92 to R94) -/

/-- R94: a successful sweep, as one act. -/
def completeSweep (s : State) : State :=
  let s := releaseLoad (s.withImc { s.imc with rakeTimer := none }) .rakeMtr
  let s := s.withImc { s.imc with harvestCount := satAdd Config.max16 s.imc.harvestCount 1 }
  let s := s.raise (.harvestDone (s.imc.batch.getD freshBatch))
  if s.imc.disablePending then enterOff s else enterFillWait (openBatch s freshBatch)

/-- R85: PARK succeeds. -/
def completePark (s : State) : State :=
  enterFreezing (releaseLoad (s.withImc { s.imc with rakeTimer := none }) .rakeMtr)

/-- R85, R92: a RAKE_HOME hand-over. -/
def takeRakeHome (s : State) (asserted : Bool) : State :=
  match s.imc.state with
  | .park => if asserted then completePark s else s
  | .harvestRake =>
    if asserted then (if s.imc.leftHome then completeSweep s else s)
    else s.withImc { s.imc with leftHome := true }
  | .off | .freezing | .heldFull | .harvestHeat | .rakeRetryWait | .fillWait | .filling | .fillPaused
  | .stalled => s

def execRakeHomeAtImc (asserted : Bool) (s : State) : Host.Outcome State Fault Refusal :=
  perform (.rakeHomeAtImc asserted) s fun s => takeRakeHome s asserted

/-- The batch has failed once already (R93). -/
def alreadyRetried (x : Imc) : Bool :=
  match x.batch with
  | some b => b.rakeRetried
  | none => false

/-- R93: a failed park or sweep. -/
def failRake (s : State) (failed : RakeState) : State :=
  let s := releaseLoad (s.withImc { s.imc with rakeTimer := none }) .rakeMtr
  if s.imc.disablePending then enterOff s
  else if alreadyRetried s.imc then
    let n := satAdd Config.max8 s.imc.stallCount 1
    changeIce ((s.withImc { s.imc with stallCount := n }).raise (.iceStall failed n)) .stalled
  else
    let s := onBatch s fun b => { b with rakeRetried := true }
    let s := s.withImc { s.imc with
      failed := some failed, retryTimer := some (s.now + Config.rakeRetryMs) }
    changeIce s .rakeRetryWait

/-- R85, R92: a rake second is counted, and then the limits are tested. -/
def takeRakeSecond (s : State) (due : Nat) : State :=
  let s := s.withImc { s.imc with
    rakeOnSeconds := if s.imc.rakeOn then s.imc.rakeOnSeconds + 1 else s.imc.rakeOnSeconds,
    rakeTimer := some (due + Config.second) }
  match s.imc.state with
  | .park => if Config.rakeLimit ≤ s.imc.rakeOnSeconds then failRake s .park else s
  | .harvestRake =>
    if (Config.rakeLeaveLimit ≤ s.imc.rakeOnSeconds ∧ s.imc.leftHome = false)
        ∨ Config.rakeLimit ≤ s.imc.rakeOnSeconds then failRake s .harvestRake else s
  | .off | .freezing | .heldFull | .harvestHeat | .rakeRetryWait | .fillWait | .filling | .fillPaused
  | .stalled => s.withImc { s.imc with rakeTimer := none }

def execRakeSecond (s : State) : Host.Outcome State Fault Refusal :=
  perform .rakeSecond s fun s => onExpiry s.imc.rakeTimer s fun due s => takeRakeSecond s due

/-- R93: the retry timer expires, and IMC enters the state that failed afresh. -/
def retryRake (s : State) : State :=
  let s := s.withImc { s.imc with retryTimer := none }
  match s.imc.state, s.imc.failed with
  | .rakeRetryWait, some .park => enterPark s
  | .rakeRetryWait, some .harvestRake => enterHarvestRake s
  | _, _ => s

def execRetryTimerExpiry (s : State) : Host.Outcome State Fault Refusal :=
  perform .retryTimerExpiry s fun s => onExpiry s.imc.retryTimer s fun _ s => retryRake s

/-! ### Filling (R95 to R100) -/

/-- R95: an FZ hand-over re-evaluates the condition. -/
def execFzAtImc (status : ChannelStatus) (value : Option Temp) (s : State) :
    Host.Outcome State Fault Refusal :=
  perform (.fzAtImc status value) s fun s => decideFill s status value

/-- R95: a DFC state hand-over re-evaluates the condition, on DFC's present state (log 14). -/
def execDfcStateAtImc (state : DefrostState) (s : State) : Host.Outcome State Fault Refusal :=
  perform (.dfcStateAtImc state) s decideFillNow

/-- R98: the no-water hold expires. -/
def execNoWaterHoldExpiry (s : State) : Host.Outcome State Fault Refusal :=
  perform .noWaterHoldExpiry s fun s =>
    onExpiry s.imc.noWaterTimer s fun _ s =>
      decideFillNow (s.withImc { s.imc with noWaterTimer := none })

/-- R96: FILLING entry; the first entry of the batch sets the fill target. -/
def enterFilling (s : State) (target : Option Nat) : State :=
  let s := onBatch s fun b =>
    { b with fillTarget := match b.fillTarget with
        | some t => some t
        | none => target }
  let s := s.withImc { s.imc with
    claimView := .granted, fillTimer := some (s.now + Config.second) }
  changeIce s .filling

/-- R96: a grant that IMC takes, or releases at once. -/
def takeGrant (s : State) (target : Option Nat) : State :=
  if (s.imc.state = .fillWait ∨ s.imc.state = .fillPaused) ∧ s.imc.claimView = .waiting
      ∧ fillWanted s (s.channel .fz).status (s.channel .fz).value = true then
    enterFilling s target
  else (s.handover (.claimReleased .ice)).withImc { s.imc with claimView := .granted }

def execGrantedAtImc (target : Option Nat) (s : State) : Host.Outcome State Fault Refusal :=
  perform (.grantedAtImc target) s fun s => takeGrant s target

/-- R97: a fill second; at 20 IMC releases the claim. -/
def takeFillSecond (s : State) (due : Nat) : State :=
  let n := satAdd Config.fillLimit s.imc.fillSeconds 1
  let s := s.withImc { s.imc with fillSeconds := n, fillTimer := some (due + Config.second) }
  if n = Config.fillLimit then s.handover (.claimReleased .ice) else s

def execFillSecond (s : State) : Host.Outcome State Fault Refusal :=
  perform .fillSecond s fun s => onExpiry s.imc.fillTimer s fun due s => takeFillSecond s due

/-- R97, R99: CLOSED stops the fill-second timer; with cause SAG it pauses the fill. -/
def takeClosed (s : State) (cause : CloseCause) : State :=
  if s.imc.state = .filling then
    match cause with
    | .sag => pauseFill s
    | .closePoint | .released | .noFlow | .preempted => s.withImc { s.imc with fillTimer := none }
  else s

def execClosedAtImc (cause : CloseCause) (s : State) : Host.Outcome State Fault Refusal :=
  perform (.closedAtImc cause) s fun s => takeClosed s cause

/-- R99: a preemption pauses the fill. -/
def execPreemptionCountAtImc (count : Nat) (s : State) : Host.Outcome State Fault Refusal :=
  perform (.preemptionCountAtImc count) s fun s =>
    if s.imc.state = .filling then pauseFill (onBatch s fun b => { b with preemptions := count })
    else s

/-- R98: a fill of less than 20 mL is abandoned. -/
def abandonFill (s : State) (charged : Nat) : State :=
  let s := openBatch (s.raise (.noWater charged)) freshBatch
  enterFillWait (s.withImc { s.imc with noWaterTimer := some (s.now + Config.noWaterMs) })

/-- R98: a fill ends with TIME_LIMIT or NO_WATER. -/
def endShortFill (s : State) (cause : FillEnd) : State :=
  let charged := (s.imc.batch.map (·.charged)).getD 0
  if Config.noWaterMinimum ≤ charged then freezeFill s cause
  else abandonFill (onBatch s fun b => { b with fillEnd := some cause }) charged

/-- R98: SETTLED in FILLING ends the fill; a cause of PREEMPTED or SAG, which WPU hands no filling IMC,
only ends the claim (log 21). -/
def settleFilling (s : State) (cause : CloseCause) : State :=
  let s := s.withImc { s.imc with claimView := .none, fillTimer := none }
  match cause with
  | .closePoint => freezeFill s .done
  | .released => endShortFill s .timeLimit
  | .noFlow => endShortFill s .noWater
  | .preempted | .sag => s

/-- R96, R99, R100: SETTLED in FILL_PAUSED. With the claim view NONE, the claim having been withdrawn,
IMC forms the remaining volume itself; with the view GRANTED it was a crossed grant that has ended. -/
def settlePaused (s : State) : State :=
  match s.imc.claimView with
  | .none =>
    if remainingFill s.imc ≤ Config.resumeMinimum then freezeFill s .done else decideFillNow s
  | .granted => decideFillNow (s.withImc { s.imc with claimView := .none })
  | .waiting | .withdrawing => decideFillNow s

/-- R96, R98 to R100, R82: a SETTLED hand-over. -/
def takeSettled (s : State) (cause : CloseCause) : State :=
  match s.imc.state with
  | .filling => settleFilling s cause
  | .fillPaused => settlePaused s
  | .fillWait => decideFillNow (s.withImc { s.imc with claimView := .none })
  | .off | .park | .freezing | .heldFull | .harvestHeat | .harvestRake | .rakeRetryWait | .stalled =>
    s.withImc { s.imc with claimView := .none }

def execSettledAtImc (cause : CloseCause) (total : Nat) (s : State) :
    Host.Outcome State Fault Refusal :=
  perform (.settledAtImc cause total) s fun s => takeSettled s cause

/-- R98: WPU's fill end for a paused fill. The fill end itself leaves IMC's view of the claim as it was:
it becomes NONE at the SETTLED that follows in FREEZING (log 45). -/
def execFillEndAtImc (total : Nat) (s : State) : Host.Outcome State Fault Refusal :=
  perform (.fillEndAtImc total) s fun s =>
    if s.imc.state = .fillPaused then freezeFill s .done else s

/-- R95: WITHDRAWN sets the view to NONE, and the condition is evaluated. -/
def execWithdrawnAtImc (s : State) : Host.Outcome State Fault Refusal :=
  perform .withdrawnAtImc s fun s => decideFillNow (s.withImc { s.imc with claimView := .none })

/-- R83: a charged millilitre, whatever IMC's state. -/
def execMillilitreAtImc (s : State) : Host.Outcome State Fault Refusal :=
  perform .millilitreAtImc s fun s =>
    onBatch s fun b => { b with charged := satAdd Config.max16 b.charged 1 }

/-! ### Disabling (R101) -/

/-- R101: the record's fill end cause becomes DISABLED. -/
def disableFill (s : State) : State := onBatch s fun b => { b with fillEnd := some .disabled }

/-- R101: a claim that is WAITING is withdrawn. -/
def withdrawIfWaiting (s : State) : State :=
  if s.imc.claimView = .waiting then withdrawFill s else s

/-- R101. -/
def disableIce (s : State) : State :=
  match s.imc.state with
  | .harvestHeat | .harvestRake => s.withImc { s.imc with disablePending := true }
  | .filling => enterOff (disableFill (s.handover (.claimReleased .ice)))
  | .fillPaused => enterOff (disableFill (withdrawIfWaiting s))
  | .fillWait => enterOff (withdrawIfWaiting s)
  | .park | .freezing | .heldFull | .rakeRetryWait | .stalled => enterOff s
  | .off => s

def execIceDisable (s : State) : Host.Outcome State Fault Refusal :=
  perform .iceDisable s fun s => answerIce (disableIce s) 0x51 .ok

/-! ### ICE STATUS (R104) -/

/-- TABLE 5-2, in field order; the four flags and the two-valued fields of the record in one byte. -/
def batchBytes (b : BatchRecord) : List Byte :=
  leAbsentZero 1 b.fillTarget ++ le 2 b.charged ++ le 1 (fillEndCode b.fillEnd)
    ++ le 1 b.preemptions ++ le 2 b.freezeSeconds ++ lePresence 2 b.creditAtHarvest
    ++ leAbsentZero 2 b.freezeTarget
    ++ [bitsByte [b.forced, b.unknownFill, b.heaterTimeout, b.rakeRetried]]

/-- IMC is in PARK or HARVEST_RAKE. -/
def raking : IceState → Bool
  | .park | .harvestRake => true
  | .off | .freezing | .heldFull | .harvestHeat | .rakeRetryWait | .fillWait | .filling | .fillPaused
  | .stalled => false

/-- The ice state of the rake's failed state, absent when none is noted. -/
def failedCode (x : Option RakeState) : Nat :=
  match x with
  | some r => iceStateCode (rakeIceState r)
  | none => 0

/-- R104, laid out as R161 gives (log 18). -/
def icePayload (now : Nat) (x : Imc) : List Byte :=
  let heating := decide (x.state = .harvestHeat)
  let waiting := decide (x.state = .rakeRetryWait)
  le 1 (iceStateCode x.state) ++ [bitsByte [x.disablePending]] ++ le 1 (claimViewCode x.claimView)
    ++ le 2 x.credit ++ le 1 x.fillSeconds
    ++ leCountPresence (if heating then some x.heatOnSeconds else none)
    ++ lePresence 1 (if heating then some (packBits [x.moldOn]) else none)
    ++ leCountPresence (if raking x.state then some x.rakeOnSeconds else none)
    ++ lePresence 1 (if raking x.state then some (packBits [x.rakeOn, x.leftHome]) else none)
    ++ leCountPresence (if waiting then x.retryTimer.map (secondsLeft now) else none)
    ++ le 1 (if waiting then failedCode x.failed else 0)
    ++ leCountPresence (x.noWaterTimer.map (secondsLeft now))
    ++ leRecord batchBytes x.batch ++ le 2 x.harvestCount ++ le 1 x.stallCount

def execIceStatus (s : State) : Host.Outcome State Fault Refusal :=
  perform .iceStatus s fun s => answer s 0x53 .ok (icePayload s.now s.imc)

end Sys2Proof.Machine
end

