-- ==== Sys2Proof/Machine/Rpu.lean ====
section
/-! DEFINITION. RPU (Section 8): events taken, ages, and RPU's requests. Flags.lean holds how an event is
taken, a report offered and ATTN evaluated. -/

namespace Sys2Proof.Machine

open Sys2Proof

def execEventTaken (e : Event) (s : State) : Host.Outcome State Fault Refusal :=
  perform (.eventTaken e) s fun s => takeEvent s e

/-- R146: every record in the queue ages by one second. -/
def ageReport (r : Report) : Report := { r with age := satAdd Config.max16 r.age 1 }

def takeAgeSecond (s : State) (due : Nat) : State :=
  s.withRpu { s.rpu with
    queue := s.rpu.queue.map ageReport, ageTimer := some (due + Config.second) }

def execAgeSecond (s : State) : Host.Outcome State Fault Refusal :=
  perform .ageSecond s fun s => onExpiry s.rpu.ageTimer s fun due s => takeAgeSecond s due

/-- R143: flags, enables, ATTN enable and ATTN output (packed, R161), queue level. -/
def eventsPayload (r : Rpu) : List Byte :=
  le 2 r.flags.toNat ++ le 2 r.enables.toNat ++ [bitsByte [r.attnEnable, r.attn]]
    ++ le 1 r.queue.length

def execReadEvents (s : State) : Host.Outcome State Fault Refusal :=
  perform .readEvents s fun s => answer s 0x78 .ok (eventsPayload s.rpu)

/-- R144: the named flags are cleared; LEAK is handed on to WPU. -/
def clearEvents (s : State) (kinds : KindSet) : State :=
  let flags := s.rpu.flags &&& ~~~kinds
  let s := s.withRpu { s.rpu with flags := flags }
  let s := if kinds.getLsbD 10 then s.handover .leakLatchClear else s
  answer s 0x79 .ok (le 2 flags.toNat)

def execClearEvents (kinds : KindSet) (s : State) : Host.Outcome State Fault Refusal :=
  perform (.clearEvents kinds) s fun s => clearEvents s kinds

/-- R145: the seventeen enables. -/
def enablesPayload (r : Rpu) : List Byte := le 2 r.enables.toNat ++ [bitsByte [r.attnEnable]]

/-- R145: all seventeen enables are replaced at once, unless the ATTN enable is neither on nor off. The
BAD_PARAM reply carries the seventeen enables too, as they stand (log 48). -/
def setReportEnables (s : State) (kinds : KindSet) (attn : Byte) : State :=
  if 1 < attn.toNat then answer s 0x7A .badParam (enablesPayload s.rpu)
  else
    let r := evalAttn { s.rpu with enables := kinds, attnEnable := decide (attn = 1) }
    answer (s.withRpu r) 0x7A .ok (enablesPayload r)

def execSetReportEnables (kinds : KindSet) (attn : Byte) (s : State) :
    Host.Outcome State Fault Refusal :=
  perform (.setReportEnables kinds attn) s fun s => setReportEnables s kinds attn

/-- R150: the number of records asked for, in 1..4. -/
def fetchCount (count : Nat) : Nat := max 1 (min Config.fetchMax count)

/-- R162: a record in the reply. -/
def reportBytes (r : Report) : List Byte :=
  le 1 r.kind ++ le 2 r.age ++ le 1 r.body.length ++ r.body

/-- R150: the oldest records are removed and returned. -/
def fetchReports (s : State) (count : Byte) : State :=
  let n := fetchCount count.toNat
  let taken := s.rpu.queue.take n
  let r := evalAttn { s.rpu with queue := s.rpu.queue.drop n }
  answer (s.withRpu r) 0x7B (if n = count.toNat then .ok else .clamped)
    (le 1 taken.length ++ le 1 r.queue.length ++ taken.flatMap reportBytes)

def execFetchReports (count : Byte) (s : State) : Host.Outcome State Fault Refusal :=
  perform (.fetchReports count) s fun s => fetchReports s count

/-- R149: the counts are returned, and then the drop counts are 0. -/
def readReportCounts (s : State) : State :=
  let r := s.rpu
  let s := s.withRpu { r with alarmDrops := 0, statusDrops := 0 }
  answer s 0x7C .ok
    (le 1 r.alarmDrops ++ le 1 r.statusDrops ++ le 1 r.queue.length ++ le 1 (freeSlots r))

def execReadReportCounts (s : State) : Host.Outcome State Fault Refusal :=
  perform .readReportCounts s readReportCounts

end Sys2Proof.Machine
end

