-- ==== Sys2Proof/Machine/Wpu.lean ====
section
/-! DEFINITION. WPU (Section 2): claims, the arbiter, the coils, metering, learning, the leak watch, the
filter account, and WPU's requests. -/

namespace Sys2Proof.Machine

open Sys2Proof

/-! ### Claims and learning by path -/

def getClaim (w : Wpu) : Claimant → Claim
  | .ice => w.ice
  | .disp => w.disp

def setClaim (w : Wpu) (who : Claimant) (c : Claim) : Wpu :=
  match who with
  | .ice => { w with ice := c }
  | .disp => { w with disp := c }

def getLearning (w : Wpu) : Claimant → PathLearning
  | .ice => w.iceLearning
  | .disp => w.dispLearning

def setLearning (w : Wpu) (who : Claimant) (l : PathLearning) : Wpu :=
  match who with
  | .ice => { w with iceLearning := l }
  | .disp => { w with dispLearning := l }

/-- R19: a coil is energized while the path is OPEN with its claimant holding it, and never while LDM
is in sag (log 13). -/
def coilEnergized (s : State) (who : Claimant) : Bool :=
  decide (s.wpu.path = .opened) && decide (s.wpu.grant.map (·.holder) = some who)
    && decide (s.ldm.monitor = .normal)

/-! ### Hand-overs to the claimants (R21) -/

def handGranted (s : State) (who : Claimant) (target : Option Nat) : State :=
  match who with
  | .ice => s.handover (.grantedAtImc target)
  | .disp => s.handover .grantedAtDsc

def handClosed (s : State) (who : Claimant) (cause : CloseCause) : State :=
  match who with
  | .ice => s.handover (.closedAtImc cause)
  | .disp => s.handover (.closedAtDsc cause)

def handSettled (s : State) (who : Claimant) (cause : CloseCause) (total : Nat) : State :=
  match who with
  | .ice => s.handover (.settledAtImc cause total)
  | .disp => s.handover (.settledAtDsc cause total)

def handWithdrawn (s : State) (who : Claimant) : State :=
  match who with
  | .ice => s.handover .withdrawnAtImc
  | .disp => s.handover .withdrawnAtDsc

/-! ### The grant (R22, R23, R30) -/

/-- R30: the close point of a grant target `g` with the anticipation `a`. -/
def closePointOf (g a : Nat) : Nat := g - min a (g / 2)

/-- R22: the arbiter grants the path, as one act. The grant target is the target less what is charged
already: the whole target for a first grant, the remaining volume for a resumed fill. Where more is
charged than the target holds, the remaining volume is taken as 0 (log 24). -/
def grantPath (s : State) (who : Claimant) : State :=
  let c := getClaim s.wpu who
  let g := c.target.map (· - c.charged)
  let w := setClaim s.wpu who { c with state := .granted }
  let s := s.withWpu { w with
    grant := some
      { holder := who, target := g, charged := 0,
        closePoint := g.map (closePointOf · (getLearning s.wpu who).anticipation),
        time := s.now, cause := none },
    path := .opened,
    noFlowTimer := some (s.now + Config.noFlowMs) }
  handGranted s who c.target

/-- R23: DISP goes first, unless ICE has been WAITING for 120 s or more. -/
def arbiterChoice (now : Nat) (w : Wpu) : Option Claimant :=
  match w.ice.state, w.disp.state with
  | .waiting, .waiting =>
    if Config.starvationMs ≤ now - w.ice.since.getD now then some .ice else some .disp
  | .waiting, _ => some .ice
  | _, .waiting => some .disp
  | _, _ => none

/-- R23: the arbiter decides. -/
def arbitrate (s : State) : State :=
  if s.wpu.path = .idle ∧ s.wpu.sag = false then
    match arbiterChoice s.now s.wpu with
    | some who => grantPath s who
    | none => s
  else s

/-! ### The close (R25) -/

/-- R25: an open coil closes with the cause, and CLOSED is handed to the holder. A cause that finds
no open coil closes nothing. -/
def closeCoil (s : State) (cause : CloseCause) : State :=
  match s.wpu.path, s.wpu.grant with
  | .opened, some g =>
    let s := s.withWpu { s.wpu with
      grant := some { g with cause := some cause },
      noFlowTimer := none,
      path := .settling,
      settleTimer := some (s.now + Config.settleMs) }
    handClosed s g.holder cause
  | _, _ => s

/-- The ICE claim returns to WAITING at the present time (R24, R27). -/
def iceWaitsAgain (s : State) : State :=
  s.withWpu { s.wpu with ice := { s.wpu.ice with state := .waiting, since := some s.now } }

/-! ### Claim events (R21, R24) -/

/-- R24: the path is OPEN with holder ICE and the fill has not been preempted twice. -/
def preemptible (w : Wpu) : Bool :=
  decide (w.path = .opened) && decide (w.grant.map (·.holder) = some .ice)
    && decide (w.ice.preemptions < 2)

/-- R24: the preemption. The new count is handed before the CLOSED hand-over. -/
def preemptFill (s : State) : State :=
  let n := s.wpu.ice.preemptions + 1
  let s := s.withWpu { s.wpu with ice := { s.wpu.ice with preemptions := n } }
  let s := s.handover (.preemptionCountAtImc n)
  iceWaitsAgain (closeCoil s .preempted)

/-- R21: a claim made while NONE becomes WAITING; then WPU acts as R23 and R24 give. -/
def makeClaim (s : State) (who : Claimant) (target : Option Nat) (charged preemptions : Nat) :
    State :=
  if (getClaim s.wpu who).state = .none then
    let s := s.withWpu (setClaim s.wpu who
      { state := .waiting, since := some s.now, target := target, charged := charged,
        preemptions := preemptions })
    if who = .disp ∧ preemptible s.wpu = true then preemptFill s else arbitrate s
  else s

def execClaimMade (who : Claimant) (target : Option Nat) (charged preemptions : Nat) (s : State) :
    Host.Outcome State Fault Refusal :=
  perform (.claimMade who target charged preemptions) s fun s =>
    makeClaim s who target charged preemptions

/-- R21: withdrawn while WAITING the claim becomes NONE; otherwise nothing changes at WPU. -/
def withdrawClaim (s : State) (who : Claimant) : State :=
  if (getClaim s.wpu who).state = .waiting then
    handWithdrawn (s.withWpu (setClaim s.wpu who .held)) who
  else s

def execClaimWithdrawn (who : Claimant) (s : State) : Host.Outcome State Fault Refusal :=
  perform (.claimWithdrawn who) s fun s => withdrawClaim s who

/-- R21: released while GRANTED and OPEN the coil closes RELEASED; otherwise nothing changes. -/
def releaseClaim (s : State) (who : Claimant) : State :=
  if (getClaim s.wpu who).state = .granted ∧ s.wpu.grant.map (·.holder) = some who then
    closeCoil s .released
  else s

def execClaimReleased (who : Claimant) (s : State) : Host.Outcome State Fault Refusal :=
  perform (.claimReleased who) s fun s => releaseClaim s who

/-! ### The filter account (R35 to R37) -/

/-- R37: the filter status; the products are exact. -/
def filterStatusOf (used capacity age ageLim : Nat) : FilterStatus :=
  if capacity ≤ used ∨ ageLim ≤ age then .expired
  else if capacity * 9 ≤ used * 10 ∨ ageLim - 14 ≤ age then .due
  else .ok

/-- R37: the status is re-evaluated, and a change raises FILTER_STATUS. -/
def reevaluateFilter (s : State) : State :=
  let st := filterStatusOf s.wpu.used s.wpu.capacity s.wpu.age s.wpu.ageLim
  if st = s.wpu.status then s
  else (s.withWpu { s.wpu with status := st }).raise (.filterStatus st s.wpu.used s.wpu.age)

/-- R35: a millilitre adds to filter used, counts toward the save step, and may request a save. A
millilitre that finds filter used saturated changes nothing here. -/
def countUsed (s : State) : State :=
  if s.wpu.used < Config.usedMax then
    let steps := s.wpu.saveSteps + 1
    let s := s.withWpu { s.wpu with
      used := s.wpu.used + 1, saveSteps := if 2000 ≤ steps then 0 else steps }
    reevaluateFilter (if 2000 ≤ steps then s.handover .saveRequest else s)
  else s

/-! ### Metering (R28, R29) and the leak watch (R33, R34) -/

/-- R33: the newest bin and the sum each take one more millilitre. -/
def addLeak (w : Wpu) : Wpu :=
  { w with
    leakBins := match w.leakBins with
      | b :: rest => satAdd Config.max16 b 1 :: rest
      | [] => [],
    leakSum := satAdd Config.max16 w.leakSum 1 }

/-- R29, R33, R34: an unclaimed millilitre. -/
def chargeUnclaimed (s : State) : State :=
  let w := addLeak { s.wpu with unclaimed := satAdd Config.max16 s.wpu.unclaimed 1 }
  if w.leakLim ≤ w.leakSum ∧ w.leakLatch = false then
    (s.withWpu { w with leakLatch := true }).raise (.leak w.leakSum)
  else s.withWpu w

/-- A millilitre handed to the claimant it is charged to, and to FEST for ICE (R29). -/
def handMillilitre (s : State) (who : Claimant) : State :=
  match who with
  | .ice => (s.handover .millilitreAtImc).handover .fillWaterMillilitre
  | .disp => s.handover .millilitreAtDsc

/-- R29, R30, R32: a millilitre charged to the holder of the grant record. In OPEN it restarts the
no-flow timer and may bring the close point. -/
def chargeHolder (s : State) (g : Grant) : State :=
  let c := getClaim s.wpu g.holder
  let w := if c.state = .none then s.wpu
    else setClaim s.wpu g.holder { c with charged := c.charged + 1 }
  let g' := { g with charged := g.charged + 1 }
  let s := s.withWpu { w with grant := some g' }
  let s := handMillilitre s g.holder
  if s.wpu.path = .opened then
    let s := s.withWpu { s.wpu with noFlowTimer := some (s.now + Config.noFlowMs) }
    match g'.closePoint with
    | some p => if p ≤ g'.charged then closeCoil s .closePoint else s
    | none => s
  else s

/-- R29: every produced millilitre is charged to one account, selected by the path state, and adds to
filter used. -/
def chargeMillilitre (s : State) : State :=
  match s.wpu.path, s.wpu.grant with
  | .opened, some g => countUsed (chargeHolder s g)
  | .settling, some g => countUsed (chargeHolder s g)
  | _, _ => countUsed (chargeUnclaimed s)

/-- R28: a meter pulse. -/
def takePulse (s : State) : State :=
  let r := s.wpu.residue + 1000
  if s.wpu.meterK ≤ r then
    chargeMillilitre (s.withWpu { s.wpu with residue := r - s.wpu.meterK })
  else s.withWpu { s.wpu with residue := r }

def execMeterPulse (s : State) : Host.Outcome State Fault Refusal :=
  perform .meterPulse s takePulse

def execNoFlowExpiry (s : State) : Host.Outcome State Fault Refusal :=
  perform .noFlowExpiry s fun s =>
    onExpiry s.wpu.noFlowTimer s fun _ s =>
      closeCoil (s.withWpu { s.wpu with noFlowTimer := none }) .noFlow

/-! ### The settle window (R26, R31) -/

/-- R31: the mean of the overruns, truncated toward zero and clamped to 0..30. -/
def anticipationOf (overruns : List Int) : Nat :=
  (clampInt 0 30 (overruns.sum.tdiv overruns.length)).toNat

/-- R31: the clamped overrun is appended, the oldest of four removed first. -/
def learnOverrun (l : PathLearning) (total target : Nat) : PathLearning :=
  let o := clampInt (-30) 30 ((total : Int) - target)
  let list := (if 4 ≤ l.overruns.length then l.overruns.drop 1 else l.overruns) ++ [o]
  { overruns := list, anticipation := anticipationOf list }

/-- R26 step 1: a paused fill whose remaining volume is 5 mL or less. -/
def pausedFillDone (w : Wpu) (g : Grant) : Bool :=
  decide (g.holder = .ice) && decide (g.cause = some .preempted ∨ g.cause = some .sag)
    && decide (w.ice.state = .waiting)
    && decide (w.ice.target.getD 0 - w.ice.charged ≤ Config.resumeMinimum)

/-- R26 step 3: the causes that end the holder's claim. -/
def claimEnds (g : Grant) : Bool :=
  match g.cause with
  | some .closePoint | some .released | some .noFlow => true
  | some .sag => decide (g.holder = .disp)
  | some .preempted | none => false

/-- R26: WPU ends the grant, as one act, in the order of its steps. A claim that becomes NONE here has
its fields absent or 0, as at a withdrawal (R21, log 41). A claim withdrawn and made again within the
window hands its own charged total, not charged this grant (log 43). -/
def endGrant (s : State) (g : Grant) : State :=
  let c := getClaim s.wpu g.holder
  let total := if c.state = .none then g.charged else c.charged
  let cause := g.cause.getD .released
  let s := if pausedFillDone s.wpu g then
      (s.withWpu { s.wpu with ice := .held }).handover (.fillEndAtImc total)
    else s
  let s := match g.cause, c.target with
    | some .closePoint, some target =>
      s.withWpu (setLearning s.wpu g.holder (learnOverrun (getLearning s.wpu g.holder) total target))
    | _, _ => s
  let s := if claimEnds g then s.withWpu (setClaim s.wpu g.holder .held) else s
  let s := handSettled s g.holder cause total
  arbitrate (s.withWpu { s.wpu with grant := none, path := .idle })

def execSettleWindowExpiry (s : State) : Host.Outcome State Fault Refusal :=
  perform .settleWindowExpiry s fun s =>
    onExpiry s.wpu.settleTimer s fun _ s =>
      let s := s.withWpu { s.wpu with settleTimer := none }
      match s.wpu.grant with
      | some g => endGrant s g
      | none => s

/-! ### Sag at WPU (R27) -/

/-- R27: the sag entry reaches WPU. -/
def wpuSagEntry (s : State) : State :=
  let s := s.withWpu { s.wpu with sag := true }
  match s.wpu.path, s.wpu.grant with
  | .opened, some g =>
    let s := closeCoil s .sag
    match g.holder with
    | .ice => iceWaitsAgain s
    | .disp => s
  | _, _ => s

def execWpuSagEntry (s : State) : Host.Outcome State Fault Refusal :=
  perform .wpuSagEntry s wpuSagEntry

/-- R27: the sag exit reaches WPU. -/
def wpuSagExit (s : State) : State := arbitrate (s.withWpu { s.wpu with sag := false })

def execWpuSagExit (s : State) : Host.Outcome State Fault Refusal :=
  perform .wpuSagExit s wpuSagExit

/-! ### Leak minute, leak latch and day second (R33, R34, R36) -/

/-- R33: the oldest bin leaves the sum and a new bin opens; a sum of 0 clears the latch. -/
def takeLeakMinute (s : State) (due : Nat) : State :=
  let sum := s.wpu.leakSum - s.wpu.leakBins.getLastD 0
  s.withWpu { s.wpu with
    leakBins := 0 :: s.wpu.leakBins.dropLast,
    leakSum := sum,
    leakLatch := if sum = 0 then false else s.wpu.leakLatch,
    leakTimer := some (due + Config.minute) }

def execLeakMinute (s : State) : Host.Outcome State Fault Refusal :=
  perform .leakMinute s fun s => onExpiry s.wpu.leakTimer s fun due s => takeLeakMinute s due

def execLeakLatchClear (s : State) : Host.Outcome State Fault Refusal :=
  perform .leakLatchClear s fun s => s.withWpu { s.wpu with leakLatch := false }

/-- R36: a powered second; a completed day increments filter age and requests a save. -/
def takeDaySecond (s : State) (due : Nat) : State :=
  let s := s.withWpu { s.wpu with dayTimer := some (due + Config.second) }
  if 86400 ≤ s.wpu.daySeconds + 1 then
    reevaluateFilter ((s.withWpu { s.wpu with
      daySeconds := 0, age := satAdd Config.max16 s.wpu.age 1 }).handover .saveRequest)
  else s.withWpu { s.wpu with daySeconds := s.wpu.daySeconds + 1 }

def execDaySecond (s : State) : Host.Outcome State Fault Refusal :=
  perform .daySecond s fun s => onExpiry s.wpu.dayTimer s fun due s => takeDaySecond s due

/-! ### Requests (R38, R39, R40) -/

/-- R38: a new cartridge. -/
def filterReset (s : State) (capacity : BitVec 24) : State :=
  let stored := max Config.capacityMin (min Config.capacityMax capacity.toNat)
  let s := s.withWpu { s.wpu with
    capacity := stored, used := 0, age := 0, daySeconds := 0, saveSteps := 0 }
  let s := (reevaluateFilter s).handover .saveRequest
  answer s 0x22 (if stored = capacity.toNat then .ok else .clamped) (le 3 stored)

def execFilterReset (capacity : BitVec 24) (s : State) : Host.Outcome State Fault Refusal :=
  perform (.filterReset capacity) s fun s => filterReset s capacity

/-- R39: the grant record. -/
def grantBytes (now : Nat) (g : Grant) : List Byte :=
  le 1 (claimantCode g.holder) ++ leAbsentZero 2 g.target ++ le 2 g.charged
    ++ leAbsentZero 2 g.closePoint ++ leCount (secondsSince now g.time)
    ++ le 1 (closeCauseCode g.cause)

/-- R39: a claim's state and, when it is WAITING, its whole seconds of waiting. -/
def claimBytes (now : Nat) (c : Claim) : List Byte :=
  le 1 (claimStateCode c.state) ++ leCountPresence
    (if c.state = .waiting then c.since.map (secondsSince now) else none)

def learningBytes (l : PathLearning) : List Byte :=
  le 1 l.anticipation ++ le 1 l.overruns.length

/-- R39, laid out as R161 gives (log 18). -/
def waterPayload (now : Nat) (w : Wpu) : List Byte :=
  le 1 (pathStateCode w.path) ++ [bitsByte [w.sag, w.leakLatch]] ++ leRecord (grantBytes now) w.grant
    ++ claimBytes now w.ice ++ claimBytes now w.disp ++ le 1 w.ice.preemptions ++ le 2 w.residue
    ++ learningBytes w.iceLearning ++ learningBytes w.dispLearning ++ le 2 w.unclaimed
    ++ le 2 w.leakSum

def execWaterStatus (s : State) : Host.Outcome State Fault Refusal :=
  perform .waterStatus s fun s => answer s 0x20 .ok (waterPayload s.now s.wpu)

/-- R40. -/
def filterPayload (w : Wpu) : List Byte :=
  le 3 w.used ++ le 3 w.capacity ++ le 2 w.age ++ le 2 w.ageLim ++ le 1 (filterStatusCode w.status)

def execFilterStatus (s : State) : Host.Outcome State Fault Refusal :=
  perform .filterStatus s fun s => answer s 0x21 .ok (filterPayload s.wpu)

end Sys2Proof.Machine
end

