-- ==== Sys2Proof/Machine/Params.lean ====
section
/-! DEFINITION. The parameters of every block and SET PARAM and GET PARAM (R160, with R18, R41, R54,
R55, R79, R105, R124, R140 and R153). -/

namespace Sys2Proof.Machine

open Sys2Proof

/-- The parameters by name, and T under FROST_T (TABLES 1-6, 2-3, 3-6, 3-7, 4-4, 5-4, 6-4, 7-3
and 8-3). -/
inductive Param where
  | offset (ch : Channel)
  | meterK | leakLim | ageLim
  | wLo | wMid | wHi | wFzDoor | wFfDoor | wFill | minGap | backstop | heatTgt | frostT
  | defTerm | dripTime
  | fillTgt | kFreeze | startTemp | tubeDuty
  | vTank | chillRate | paddleMax | ductDuty
  | budget
  | rated (x : Load)
  | defDuty
  | reserve | attnLevel | highLevel
  deriving DecidableEq, Repr

/-- R160: the parameter of an id, none for an id in none of the lists. -/
def paramOf (id : Nat) : Option Param :=
  match id with
  | 10 => some (.offset .fz)
  | 11 => some (.offset .ev)
  | 12 => some (.offset .im)
  | 13 => some (.offset .ff)
  | 14 => some (.offset .wt)
  | 15 => some (.offset .am)
  | 20 => some .meterK
  | 21 => some .leakLim
  | 22 => some .ageLim
  | 30 => some .wLo
  | 31 => some .wMid
  | 32 => some .wHi
  | 33 => some .wFzDoor
  | 34 => some .wFfDoor
  | 35 => some .wFill
  | 36 => some .minGap
  | 37 => some .backstop
  | 38 => some .heatTgt
  | 39 => some .frostT
  | 40 => some .defTerm
  | 41 => some .dripTime
  | 50 => some .fillTgt
  | 51 => some .kFreeze
  | 52 => some .startTemp
  | 53 => some .tubeDuty
  | 60 => some .vTank
  | 61 => some .chillRate
  | 62 => some .paddleMax
  | 63 => some .ductDuty
  | 70 => some .budget
  | 71 => some (.rated .defHtr)
  | 72 => some (.rated .moldHtr)
  | 73 => some (.rated .rakeMtr)
  | 74 => some (.rated .fillTubeHtr)
  | 75 => some (.rated .ductHtr)
  | 76 => some .defDuty
  | 80 => some .reserve
  | 81 => some .attnLevel
  | 82 => some .highLevel
  | _ => none

/-- The lower limit of a parameter's range. -/
def paramLo : Param → Int
  | .offset _ => -50
  | .meterK => 1000
  | .leakLim => 10
  | .ageLim => 30
  | .wLo | .wMid | .wHi | .wFzDoor | .wFfDoor | .wFill => 0
  | .minGap => 60
  | .backstop => 1440
  | .heatTgt => 300
  | .frostT => Config.tMin
  | .defTerm => 40
  | .dripTime => 60
  | .fillTgt => 60
  | .kFreeze => 200
  | .startTemp => -200
  | .tubeDuty => 0
  | .vTank => 500
  | .chillRate => 5
  | .paddleMax => 10
  | .ductDuty => 0
  | .budget => 200
  | .rated .defHtr => 100
  | .rated .moldHtr => 50
  | .rated .rakeMtr | .rated .fillTubeHtr | .rated .ductHtr => 1
  | .defDuty => 50
  | .reserve => 0
  | .attnLevel | .highLevel => 1

/-- The upper limit of a parameter's range. -/
def paramHi : Param → Int
  | .offset _ => 50
  | .meterK => 6000
  | .leakLim => 200
  | .ageLim => 365
  | .wLo | .wMid | .wHi => 20
  | .wFzDoor | .wFfDoor => 100
  | .wFill => 10
  | .minGap => 720
  | .backstop => 5760
  | .heatTgt => 1800
  | .frostT => Config.tMax
  | .defTerm => 150
  | .dripTime => 900
  | .fillTgt => 180
  | .kFreeze => 400
  | .startTemp => -80
  | .tubeDuty => 100
  | .vTank => 1500
  | .chillRate => 60
  | .paddleMax => 120
  | .ductDuty => 100
  | .budget => 600
  | .rated .defHtr => 600
  | .rated .moldHtr => 300
  | .rated .rakeMtr => 20
  | .rated .fillTubeHtr | .rated .ductHtr => 40
  | .defDuty => 100
  | .reserve => 8
  | .attnLevel | .highLevel => 32

/-- GET PARAM: the stored value, or T for FROST_T. -/
def paramValue (s : State) : Param → Int
  | .offset ch => (s.channel ch).offset
  | .meterK => s.wpu.meterK
  | .leakLim => s.wpu.leakLim
  | .ageLim => s.wpu.ageLim
  | .wLo => s.fest.wLo
  | .wMid => s.fest.wMid
  | .wHi => s.fest.wHi
  | .wFzDoor => s.fest.wFzDoor
  | .wFfDoor => s.fest.wFfDoor
  | .wFill => s.fest.wFill
  | .minGap => s.fest.minGap
  | .backstop => s.fest.backstop
  | .heatTgt => s.fest.heatTgt
  | .frostT => s.fest.t
  | .defTerm => s.dfc.defTerm
  | .dripTime => s.dfc.dripTime
  | .fillTgt => s.imc.fillTgt
  | .kFreeze => s.imc.kFreeze
  | .startTemp => s.imc.startTemp
  | .tubeDuty => s.imc.tubeDuty
  | .vTank => s.dsc.vTank
  | .chillRate => s.dsc.chillRate
  | .paddleMax => s.dsc.paddleMax
  | .ductDuty => s.dsc.ductDuty
  | .budget => s.ldm.budget
  | .rated x => (s.load x).rated
  | .defDuty => (s.load .defHtr).duty
  | .reserve => s.rpu.reserve
  | .attnLevel => s.rpu.attnLevel
  | .highLevel => s.rpu.highLevel

/-- R102, R121: a duty of a trace heater changes. At 0 the heater is released, from 0 it is requested,
and any other change is handed to LDM. -/
def changeTraceDuty (s : State) (x : Load) (old new : Nat) : State :=
  if new = 0 then releaseLoad s x
  else if old = 0 then s.handover (.loadRequest x new)
  else if new = old then s
  else s.handover (.dutyChange x new)

/-- R102: IMC hands its heater's duty on only out of OFF. -/
def storeTubeDuty (s : State) (v : Nat) : State :=
  let old := s.imc.tubeDuty
  let s := s.withImc { s.imc with tubeDuty := v }
  if s.imc.state = .off then s else changeTraceDuty s .fillTubeHtr old v

/-- R121. -/
def storeDuctDuty (s : State) (v : Nat) : State :=
  changeTraceDuty (s.withDsc { s.dsc with ductDuty := v }) .ductHtr s.dsc.ductDuty v

/-- R128, R130: a rated power changes. -/
def storeRated (s : State) (x : Load) (v : Nat) : State :=
  rebalance s (setLoad s.ldm.loads x { s.load x with rated := v })

/-- R128, R130: BUDGET changes. -/
def storeBudget (s : State) (v : Nat) : State :=
  let s := s.withLdm { s.ldm with budget := v }
  rebalance s s.ldm.loads

/-- R160: a value, brought into its range, is stored at its owner and acts as the owner's table gives. -/
def storeParam (s : State) (p : Param) (v : Int) : State :=
  let n := v.toNat
  match p with
  | .offset ch => s.withChannel ch { s.channel ch with offset := v }
  | .meterK => s.withWpu { s.wpu with meterK := n, residue := 0 }
  | .leakLim => s.withWpu { s.wpu with leakLim := n }
  | .ageLim => reevaluateFilter (s.withWpu { s.wpu with ageLim := n })
  | .wLo => s.withFest { s.fest with wLo := n }
  | .wMid => s.withFest { s.fest with wMid := n }
  | .wHi => s.withFest { s.fest with wHi := n }
  | .wFzDoor => s.withFest { s.fest with wFzDoor := n }
  | .wFfDoor => s.withFest { s.fest with wFfDoor := n }
  | .wFill => s.withFest { s.fest with wFill := n }
  | .minGap => s.withFest { s.fest with minGap := n }
  | .backstop => s.withFest { s.fest with backstop := n }
  | .heatTgt => s.withFest { s.fest with heatTgt := n }
  | .frostT => s.withFest { s.fest with t := n }
  | .defTerm => s.withDfc { s.dfc with defTerm := v }
  | .dripTime => s.withDfc { s.dfc with dripTime := n }
  | .fillTgt => s.withImc { s.imc with fillTgt := n }
  | .kFreeze => s.withImc { s.imc with kFreeze := n }
  | .startTemp => s.withImc { s.imc with startTemp := v }
  | .tubeDuty => storeTubeDuty s n
  | .vTank => s.withDsc { s.dsc with vTank := n, c := min s.dsc.c n }
  | .chillRate => s.withDsc { s.dsc with chillRate := n }
  | .paddleMax => s.withDsc { s.dsc with paddleMax := n }
  | .ductDuty => storeDuctDuty s n
  | .budget => storeBudget s n
  | .rated x => storeRated s x n
  | .defDuty => changeDuty s .defHtr n
  | .reserve => s.withRpu { s.rpu with reserve := n }
  | .attnLevel => s.withRpu (evalAttn { s.rpu with attnLevel := n })
  | .highLevel => s.withRpu { s.rpu with highLevel := n }

/-- R160: both replies carry the id and the value as stored. -/
def paramPayload (id : Byte) (v : Int) : List Byte := id :: leSigned32 v

/-- R160: SET PARAM. The comparison is made on the whole signed value. -/
def setParam (s : State) (id : Byte) (value : BitVec 32) : State :=
  match paramOf id.toNat with
  | none => answer s 0x08 .badParam (paramPayload id 0)
  | some p =>
    let v := clampInt (paramLo p) (paramHi p) value.toInt
    let s := storeParam s p v
    answer s 0x08 (if v = value.toInt then .ok else .clamped) (paramPayload id v)

def execSetParam (id : Byte) (value : BitVec 32) (s : State) : Host.Outcome State Fault Refusal :=
  perform (.setParam id value) s fun s => setParam s id value

/-- R160: GET PARAM. -/
def getParam (s : State) (id : Byte) : State :=
  match paramOf id.toNat with
  | none => answer s 0x09 .badParam (paramPayload id 0)
  | some p => answer s 0x09 .ok (paramPayload id (paramValue s p))

def execGetParam (id : Byte) (s : State) : Host.Outcome State Fault Refusal :=
  perform (.getParam id) s fun s => getParam s id

end Sys2Proof.Machine
end

