-- ==== Sys2Proof/Machine/Reset.lean ====
section
/-! DEFINITION. The four kinds of reset and start-up (Section 10, R168 to R170, R172). -/

namespace Sys2Proof.Machine

open Sys2Proof

/-! ### Every block in its state after reset -/

/-- R168: a reset taken while a save is WRITING leaves the record torn (log 8). -/
def tearStore (l : Lnk) (x : Store) : Store :=
  if l.writing.isSome then { x with check := none } else x

/-- R11, R13: the switches after reset, each at its pin's level. -/
def heldSwitches (w : Switches) : Switches :=
  { fzDoor := .held w.fzDoor.pinLow 3, ffDoor := .held w.ffDoor.pinLow 3,
    cmpRun := .held w.cmpRun.pinLow 0, paddle := .held w.paddle.pinLow 0,
    binBeam := .held w.binBeam.pinLow 0, rakeHome := .held w.rakeHome.pinLow 0 }

/-- TABLE 1-7. -/
def heldScan (x : Scan) : Scan :=
  { chans := mapChannels (fun r => .held r.reading) x.chans, switches := heldSwitches x.switches,
    countTimer := none, fzSeconds := 0, ffSeconds := 0, cmpSeconds := 0 }

/-- R170: every block takes its state after reset, with its timers stopped, and the reset cause record
is as given. Hand-overs in flight are lost; pins, rail, clock and store stay (log 5). -/
def resetBlocks (s : State) (causes : ResetCauses) : State :=
  { s with
    handovers := [], scan := heldScan s.scan, wpu := .held, fest := .held, dfc := .held,
    imc := .held, dsc := .held, ldm := .held s.ldm.rail s.now, rpu := .held, lnk := .held causes,
    store := tearStore s.lnk s.store }

/-! ### Start-up (R169) -/

/-- R169: the store's check agrees with its values. -/
def storeGood (x : Store) : Bool := decide (x.check = some (Config.storeCheck x.values))

/-- R169: the values start-up loads: those of a good record, T clamped, or the defaults. -/
def loadedValues (x : Store) : Config.StoreValues :=
  if storeGood x then { x.values with t := clampT x.values.t }
  else
    { t := Config.tDefault, f := 0, used := 0, capacity := Config.capacityDefault, age := 0 }

/-- R169: FEST and WPU receive the values; the filter status is formed without an event (R37). -/
def loadValues (s : State) (v : Config.StoreValues) : State :=
  let s := s.withFest { s.fest with t := v.t, f := v.f }
  s.withWpu { s.wpu with
    used := v.used, capacity := v.capacity, age := v.age,
    status := filterStatusOf v.used v.capacity v.age s.wpu.ageLim }

/-- R11: SCAN compares every pin as the part leaves reset. -/
def compareAllPins (now : Nat) (w : Switches) : Switches :=
  { fzDoor := comparePin now .fzDoor w.fzDoor, ffDoor := comparePin now .ffDoor w.ffDoor,
    cmpRun := comparePin now .cmpRun w.cmpRun, paddle := comparePin now .paddle w.paddle,
    binBeam := comparePin now .binBeam w.binBeam, rakeHome := comparePin now .rakeHome w.rakeHome }

/-- R1, R11, R14. -/
def startScan (now : Nat) (x : Scan) : Scan :=
  { x with
    chans := mapChannels (fun r => { r with sampleTimer := some (now + Config.second) }) x.chans,
    switches := compareAllPins now x.switches, countTimer := some (now + Config.second) }

/-- R138: the exit timer starts at once when the rail is above 90 %. -/
def startRail (now : Nat) (x : Ldm) : Ldm :=
  { x with
    exitTimer := if Config.railExit < x.rail then some (now + Config.exitMs) else none,
    lastSag := now }

/-- R169: the timers of the blocks start (R1, R14, R33, R36, R42, R120, R138, R146). -/
def startTimers (s : State) : State :=
  let t := s.now
  let s := s.withScan (startScan t s.scan)
  let s := s.withWpu { s.wpu with
    leakTimer := some (t + Config.minute), dayTimer := some (t + Config.second) }
  let s := s.withFest { s.fest with minuteTimer := some (t + Config.minute) }
  let s := s.withDsc { s.dsc with minuteTimer := some (t + Config.minute) }
  let s := s.withLdm (startRail t s.ldm)
  s.withRpu { s.rpu with ageTimer := some (t + Config.second) }

/-- R169: start-up. DSC's request of DUCT_HTR (R121, R138) and the taking of PART_RESET (R154) belong
to the same act. -/
def startUp (s : State) : State :=
  let causes := { s.lnk.causes with storeDefaulted := !storeGood s.store }
  let s := s.withLnk { s.lnk with causes := causes }
  let s := startTimers (loadValues s (loadedValues s.store))
  let s := requestLoad s .ductHtr s.dsc.ductDuty
  takeEvent s (.partReset causes)

/-- R170: every block takes its state after reset, and start-up follows unless RESETN or a low supply
holds the part in reset. A rise that ends the holding finds the blocks in that state and leaves the record
as it stands. -/
def restart (s : State) (causes : ResetCauses) : State :=
  let s := resetBlocks s causes
  if s.running then startUp s else s

/-! ### The resets (R170, TABLE 10-1) -/

/-- TABLE 10-1: a power-on first clears all five flags. -/
def powerOnCauses : ResetCauses :=
  { powerOn := true, supplyLow := false, resetLine := false, linkRequest := false,
    storeDefaulted := false }

/-- The rise of the supply ends a low supply. A RESETN that is low at that rise goes on holding the part
and sets no flag, so that POWER_ON alone is set (log 7). -/
def execPowerOn (s : State) : Host.Outcome State Fault Refusal :=
  .next (restart (s.withSupplyLow false) powerOnCauses)

/-- R170: the reset is taken while the part runs. A part already held in reset by RESETN is held by
the supply as well, and its flag stays (log 7). -/
def supplyFalls (s : State) : State :=
  if s.running then restart (s.withSupplyLow true) { s.lnk.causes with supplyLow := true }
  else s.withSupplyLow true

def execSupplyLow (s : State) : Host.Outcome State Fault Refusal := .next (supplyFalls s)

def execResetLine (s : State) : Host.Outcome State Fault Refusal :=
  .next (restart (s.withResetnLow true) { s.lnk.causes with resetLine := true })

/-- R170: RESETN rises; a RESETN that is not low cannot rise. -/
def execResetnRise (s : State) : Host.Outcome State Fault Refusal :=
  .next (if s.resetnLow then restart (s.withResetnLow false) s.lnk.causes else s)

/-- R170: the supply rises above the reset level; one that is not low cannot rise. -/
def execSupplyRiseAboveResetLevel (s : State) : Host.Outcome State Fault Refusal :=
  .next (if s.supplyLow then restart (s.withSupplyLow false) s.lnk.causes else s)

/-- R172: the LINK_REQUEST reset. -/
def linkReset (s : State) : State := restart s { s.lnk.causes with linkRequest := true }

end Sys2Proof.Machine
end

