-- ==== Sys2Proof/Machine/Lnk.lean ====
section
/-! DEFINITION. LNK (Sections 9 and 10): the receiver, frames, replies, LNK's own requests, and saves. -/

namespace Sys2Proof.Machine

open Sys2Proof

/-! ### Discards (R157) -/

/-- The five counts of discarded frames. -/
inductive LinkError where
  | framing | noise | check | overrun | sync
  deriving DecidableEq, Repr

/-- R157: a count of 0..255, saturating. -/
def countError (l : Lnk) (e : LinkError) : Lnk :=
  match e with
  | .framing => { l with framing := satAdd Config.max8 l.framing 1 }
  | .noise => { l with noise := satAdd Config.max8 l.noise 1 }
  | .check => { l with check := satAdd Config.max8 l.check 1 }
  | .overrun => { l with overrun := satAdd Config.max8 l.overrun 1 }
  | .sync => { l with sync := satAdd Config.max8 l.sync 1 }

/-- R157: a frame is discarded, counted once, and the receiver returns to HUNT. -/
def discardFrame (s : State) (e : LinkError) : State :=
  s.withLnk { countError s.lnk e with receiver := .hunt, rxBuffer := [] }

/-! ### Reading the line (R155) -/

/-- The error a receive error counts as. -/
def rxLinkError : RxError → LinkError
  | .noise => .noise
  | .framing => .framing

/-- R155: a bit whose three samples agree takes their level; none where they disagree. -/
def readBit (b : BitSamples) : Option Bool :=
  if b.first = b.second ∧ b.second = b.third then some b.first else none

/-- The levels of data bits, in the order sent; none where the samples of one of them disagree. -/
def readLevels : List BitSamples → Option (List Bool)
  | [] => some []
  | b :: rest =>
    match readBit b, readLevels rest with
    | some level, some levels => some (level :: levels)
    | _, _ => none

/-- What LNK reads of data bits and the stop bit after them. -/
inductive ReadBits where
  | levels (data : List Bool)
  | error (e : RxError)
  deriving DecidableEq, Repr

/-- R155: samples that disagree make a noise error, a stop bit read low makes a framing error. -/
def readBits (data : List BitSamples) (stop : BitSamples) : ReadBits :=
  match readLevels data, readBit stop with
  | some levels, some high => if high then .levels levels else .error .framing
  | _, _ => .error .noise

/-- The data bits of a byte, in the order sent. -/
def lineData (b : LineByte) : List BitSamples :=
  [b.bit0, b.bit1, b.bit2, b.bit3, b.bit4, b.bit5, b.bit6, b.bit7]

/-- R155, R157: the bytes read in order, up to the first receive error. -/
def readLine : List LineByte → List Byte × Option RxError
  | [] => ([], none)
  | b :: rest =>
    match readBits (lineData b) b.stop with
    | .error e => ([], some e)
    | .levels bits => (bitsByte bits :: (readLine rest).1, (readLine rest).2)

/-! ### Break and sync byte (R155, R156) -/

/-- R156: a break puts the receiver into BREAK; a frame in BODY is discarded with a framing error. A
break that comes in SYNC discards no frame (log 26). -/
def takeBreak (s : State) : State :=
  let s := if s.lnk.receiver = .body then discardFrame s .framing else s
  s.withLnk { s.lnk with receiver := .inBreak, rxBuffer := [] }

def execBreakLow (s : State) : Host.Outcome State Fault Refusal := perform .breakLow s takeBreak

/-- R156: the rising edge that ends the break. -/
def endBreak (s : State) : State :=
  if s.lnk.receiver = .inBreak then s.withLnk { s.lnk with receiver := .sync } else s

def execBreakEnd (s : State) : Host.Outcome State Fault Refusal := perform .breakEnd s endBreak

/-- R156: the measured rate 5/D lies within 5 % of `r`, with D in nanoseconds. -/
def inSnapWindow (lowNs : Nat) (r : Rate) : Bool :=
  decide (95 * rateBps r * lowNs ≤ 500000000000) && decide (500000000000 ≤ 105 * rateBps r * lowNs)

/-- R156: the supported rate a low time snaps to, none outside every window. -/
def snapRate (lowNs : Nat) : Option Rate :=
  [Rate.r9600, .r19200, .r38400, .r57600].find? (inSnapWindow lowNs)

/-- R156: the error in the rest of the sync byte, none when it reads 0xF0 with its stop bit high. -/
def syncError (rest : SyncSamples) : Option LinkError :=
  match readBits [rest.bit4, rest.bit5, rest.bit6, rest.bit7] rest.stop with
  | .error e => some (rxLinkError e)
  | .levels high => if high = [true, true, true, true] then none else some .sync

/-- R156: a low of at least 13 bit times at 9,600 bit/s is a break, whatever the rate in force. -/
def isBreakLow (lowNs : Nat) : Bool := decide (13000000000 ≤ 9600 * lowNs)

/-- R156: the sync byte. A low of break length is a break in every receiver state: it ends with the
rising edge that closes the measured low, and nothing after that edge is sampled (log 26). A shorter low
is measured in SYNC only; a snap changes the rate in force even when the frame is then discarded. -/
def takeSyncByte (s : State) (lowNs : Nat) (rest : SyncSamples) : State :=
  if isBreakLow lowNs then endBreak (takeBreak s)
  else if s.lnk.receiver = .sync then
    match snapRate lowNs with
    | none => discardFrame s .sync
    | some r =>
      let s := s.withLnk { s.lnk with rate := r }
      match syncError rest with
      | some e => discardFrame s e
      | none => s.withLnk { s.lnk with receiver := .body, rxBuffer := [] }
  else s

def execSyncByte (lowNs : Nat) (rest : SyncSamples) (s : State) :
    Host.Outcome State Fault Refusal :=
  perform (.syncByte lowNs rest) s fun s => takeSyncByte s lowNs rest

/-! ### Frames (R157 to R159) -/

/-- Where the bytes after SYNC stand. -/
inductive FrameScan where
  | tooLong
  | partly
  | whole (bytes : List Byte)
  deriving DecidableEq, Repr

/-- R157: LEN fixes the frame's length; a LEN above 64 cannot be a frame. -/
def scanFrame (bytes : List Byte) : FrameScan :=
  match bytes with
  | [] => .partly
  | len :: _ =>
    if 64 < len.toNat then .tooLong
    else if bytes.length < len.toNat + 4 then .partly
    else .whole (bytes.take (len.toNat + 4))

/-- R158, R159: LNK hands an accepted request to its owner, or answers it itself. -/
def dispatchFrame (s : State) (kind : Byte) (payload : List Byte) : State :=
  match lookupRequest kind payload with
  | .badKind => answer s kind .badKind []
  | .badLength => answer s kind .badLength []
  | .request i => s.handover i

/-- R158: a frame is accepted. -/
def acceptFrame (s : State) (bytes : List Byte) : State :=
  match bytes with
  | len :: kind :: tag :: rest =>
    let s := s.withLnk { s.lnk with
      receiver := .hunt, rxBuffer := [], replyInProgress := true, reqTag := tag }
    dispatchFrame s kind (rest.take len.toNat)
  | _ => s

/-- R157, R158: a complete frame: the check first, then the overrun. -/
def finishFrame (s : State) (bytes : List Byte) : State :=
  if byteSum bytes ≠ 0 then discardFrame s .check
  else if s.lnk.replyInProgress then discardFrame s .overrun
  else acceptFrame s bytes

/-- R157: bytes received in BODY, and the receive error that ends them (log 27). -/
def receiveBytes (s : State) (bytes : List Byte) (error : Option RxError) : State :=
  if s.lnk.receiver = .body then
    let buffer := s.lnk.rxBuffer ++ bytes
    match scanFrame buffer with
    | .tooLong => discardFrame s .check
    | .whole frame => finishFrame s frame
    | .partly =>
      match error with
      | some e => discardFrame s (rxLinkError e)
      | none => s.withLnk { s.lnk with rxBuffer := buffer }
  else s

def execFrameCompletion (bytes : List LineByte) (last : LineByte) (s : State) :
    Host.Outcome State Fault Refusal :=
  perform (.frameCompletion bytes last) s fun s =>
    let read := readLine (bytes ++ [last])
    receiveBytes s read.1 read.2

/-- R158, R172: the reply ends; the LINK_REQUEST reset follows the reply of RESET PART. -/
def endReply (s : State) : State :=
  let reset := s.lnk.resetAtReplyEnd
  let s := s.withLnk { s.lnk with
    replyInProgress := false, reply := none, replyTimer := none, resetAtReplyEnd := false }
  if reset then linkReset s else s

def execReplyEnd (s : State) : Host.Outcome State Fault Refusal :=
  perform .replyEnd s fun s => onExpiry s.lnk.replyTimer s fun _ s => endReply s

/-! ### LNK's requests (R163, R164, R171, R172) -/

/-- R163. -/
def identifyPayload (rate : Rate) : List Byte :=
  le 2 Config.vendorCode ++ le 2 Config.partCode ++ le 1 Config.siliconRevision
    ++ le 1 (rateCode rate)

def execIdentify (s : State) : Host.Outcome State Fault Refusal :=
  perform .identify s fun s => answer s 0x01 .ok (identifyPayload s.lnk.rate)

/-- R164. -/
def linkPayload (l : Lnk) : List Byte :=
  le 1 l.framing ++ le 1 l.noise ++ le 1 l.check ++ le 1 l.overrun ++ le 1 l.sync
    ++ le 1 (rateCode l.rate)

/-- R164: after the reply is composed the five counts are 0. -/
def linkStatus (s : State) : State :=
  let s := answer s 0x02 .ok (linkPayload s.lnk)
  s.withLnk { s.lnk with framing := 0, noise := 0, check := 0, overrun := 0, sync := 0 }

def execLinkStatus (s : State) : Host.Outcome State Fault Refusal := perform .linkStatus s linkStatus

/-- R171: after the reply is composed all five flags are clear. -/
def readResetCause (s : State) : State :=
  let s := answer s 0x03 .ok [causesByte s.lnk.causes]
  s.withLnk { s.lnk with
    causes := { powerOn := false, supplyLow := false, resetLine := false, linkRequest := false,
                storeDefaulted := false } }

def execReadResetCause (s : State) : Host.Outcome State Fault Refusal :=
  perform .readResetCause s readResetCause

/-- R172: the reset comes at the end of the reply. -/
def resetPart (s : State) : State :=
  let s := answer s 0x04 .ok []
  s.withLnk { s.lnk with resetAtReplyEnd := true }

def execResetPart (s : State) : Host.Outcome State Fault Refusal := perform .resetPart s resetPart

/-! ### Saves (R166, R167) -/

/-- R167: the five values as they stand. -/
def liveValues (s : State) : Config.StoreValues :=
  { t := s.fest.t, f := s.fest.f, used := s.wpu.used, capacity := s.wpu.capacity, age := s.wpu.age }

/-- R167: a write starts; it first erases the check field. -/
def startWrite (s : State) : State :=
  let s := s.withLnk { s.lnk with
    writing := some (liveValues s), writeTimer := some (s.now + Config.writeMs) }
  s.withStore { s.store with check := none }

/-- R167: a save request. -/
def requestSave (s : State) : State :=
  match s.lnk.writing with
  | none => startWrite s
  | some _ => s.withLnk { s.lnk with savePending := true }

def execSaveRequest (s : State) : Host.Outcome State Fault Refusal :=
  perform .saveRequest s requestSave

/-- R167: a write ends, at any time within its 50 ms (log 9); a pending flag starts the next. -/
def endWrite (s : State) : State :=
  match s.lnk.writing with
  | none => s
  | some v =>
    let s := s.withStore { values := v, check := some (Config.storeCheck v) }
    if s.lnk.savePending then startWrite (s.withLnk { s.lnk with savePending := false })
    else s.withLnk { s.lnk with writing := none, writeTimer := none }

def execWriteEnd (s : State) : Host.Outcome State Fault Refusal := perform .writeEnd s endWrite

end Sys2Proof.Machine
end

