-- ==== Sys2Proof/Machine/Dispatch.lean ====
section
/-! DEFINITION. One arm per command of spec/opcode_table.json. -/

namespace Sys2Proof.Machine

open Sys2Proof

def exec (i : Instr) (s : State) : Host.Outcome State Fault Refusal :=
  match i with
  | .powerOn => Sys2Proof.Machine.execPowerOn s
  | .supplyLow => Sys2Proof.Machine.execSupplyLow s
  | .resetLine => Sys2Proof.Machine.execResetLine s
  | .breakLow => Sys2Proof.Machine.execBreakLow s
  | .breakEnd => Sys2Proof.Machine.execBreakEnd s
  | .syncByte lowNs rest => Sys2Proof.Machine.execSyncByte lowNs rest s
  | .frameCompletion bytes last => Sys2Proof.Machine.execFrameCompletion bytes last s
  | .replyEnd => Sys2Proof.Machine.execReplyEnd s
  | .identify => Sys2Proof.Machine.execIdentify s
  | .linkStatus => Sys2Proof.Machine.execLinkStatus s
  | .readResetCause => Sys2Proof.Machine.execReadResetCause s
  | .resetPart => Sys2Proof.Machine.execResetPart s
  | .setParam id value => Sys2Proof.Machine.execSetParam id value s
  | .getParam id => Sys2Proof.Machine.execGetParam id s
  | .readSensors => Sys2Proof.Machine.execReadSensors s
  | .readWatermarks => Sys2Proof.Machine.execReadWatermarks s
  | .readInputs => Sys2Proof.Machine.execReadInputs s
  | .setEdge input code => Sys2Proof.Machine.execSetEdge input code s
  | .waterStatus => Sys2Proof.Machine.execWaterStatus s
  | .filterStatus => Sys2Proof.Machine.execFilterStatus s
  | .filterReset capacity => Sys2Proof.Machine.execFilterReset capacity s
  | .frostStatus => Sys2Proof.Machine.execFrostStatus s
  | .defrostStart => Sys2Proof.Machine.execDefrostStart s
  | .defrostAbort => Sys2Proof.Machine.execDefrostAbort s
  | .defrostStatus => Sys2Proof.Machine.execDefrostStatus s
  | .readDefrostHistory index => Sys2Proof.Machine.execReadDefrostHistory index s
  | .iceEnable => Sys2Proof.Machine.execIceEnable s
  | .iceDisable => Sys2Proof.Machine.execIceDisable s
  | .iceForceHarvest => Sys2Proof.Machine.execIceForceHarvest s
  | .iceStatus => Sys2Proof.Machine.execIceStatus s
  | .dispensePortion tag volume options => Sys2Proof.Machine.execDispensePortion tag volume options s
  | .dispenseCancel tag => Sys2Proof.Machine.execDispenseCancel tag s
  | .dispenseStatus => Sys2Proof.Machine.execDispenseStatus s
  | .loadStatus => Sys2Proof.Machine.execLoadStatus s
  | .readEvents => Sys2Proof.Machine.execReadEvents s
  | .clearEvents kinds => Sys2Proof.Machine.execClearEvents kinds s
  | .setReportEnables kinds attn => Sys2Proof.Machine.execSetReportEnables kinds attn s
  | .fetchReports count => Sys2Proof.Machine.execFetchReports count s
  | .readReportCounts => Sys2Proof.Machine.execReadReportCounts s
  | .samplePeriod channel reading => Sys2Proof.Machine.execSamplePeriod channel reading s
  | .switchPinChange input low => Sys2Proof.Machine.execSwitchPinChange input low s
  | .debounceExpiry input => Sys2Proof.Machine.execDebounceExpiry input s
  | .countSecond => Sys2Proof.Machine.execCountSecond s
  | .claimMade claimant target charged preemptions => Sys2Proof.Machine.execClaimMade claimant target charged preemptions s
  | .claimWithdrawn claimant => Sys2Proof.Machine.execClaimWithdrawn claimant s
  | .claimReleased claimant => Sys2Proof.Machine.execClaimReleased claimant s
  | .meterPulse => Sys2Proof.Machine.execMeterPulse s
  | .noFlowExpiry => Sys2Proof.Machine.execNoFlowExpiry s
  | .settleWindowExpiry => Sys2Proof.Machine.execSettleWindowExpiry s
  | .wpuSagEntry => Sys2Proof.Machine.execWpuSagEntry s
  | .wpuSagExit => Sys2Proof.Machine.execWpuSagExit s
  | .leakMinute => Sys2Proof.Machine.execLeakMinute s
  | .leakLatchClear => Sys2Proof.Machine.execLeakLatchClear s
  | .daySecond => Sys2Proof.Machine.execDaySecond s
  | .accumulationMinute => Sys2Proof.Machine.execAccumulationMinute s
  | .fillWaterMillilitre => Sys2Proof.Machine.execFillWaterMillilitre s
  | .heatEndAtFest cause onSeconds => Sys2Proof.Machine.execHeatEndAtFest cause onSeconds s
  | .completionAtFest cause => Sys2Proof.Machine.execCompletionAtFest cause s
  | .defrostRequest reason frost => Sys2Proof.Machine.execDefrostRequest reason frost s
  | .imcStateAtDfc state => Sys2Proof.Machine.execImcStateAtDfc state s
  | .heatSecond => Sys2Proof.Machine.execHeatSecond s
  | .evAtDfc status value => Sys2Proof.Machine.execEvAtDfc status value s
  | .heaterOnAtDfc isOn => Sys2Proof.Machine.execHeaterOnAtDfc isOn s
  | .tHandBack before after => Sys2Proof.Machine.execTHandBack before after s
  | .dripExpiry => Sys2Proof.Machine.execDripExpiry s
  | .recoveryExpiry => Sys2Proof.Machine.execRecoveryExpiry s
  | .retryHoldExpiry => Sys2Proof.Machine.execRetryHoldExpiry s
  | .creditInterval => Sys2Proof.Machine.execCreditInterval s
  | .imAtImc status value => Sys2Proof.Machine.execImAtImc status value s
  | .binBeamAtImc asserted => Sys2Proof.Machine.execBinBeamAtImc asserted s
  | .harvestSecond => Sys2Proof.Machine.execHarvestSecond s
  | .rakeHomeAtImc asserted => Sys2Proof.Machine.execRakeHomeAtImc asserted s
  | .rakeSecond => Sys2Proof.Machine.execRakeSecond s
  | .retryTimerExpiry => Sys2Proof.Machine.execRetryTimerExpiry s
  | .moldOnAtImc isOn => Sys2Proof.Machine.execMoldOnAtImc isOn s
  | .rakeOnAtImc isOn => Sys2Proof.Machine.execRakeOnAtImc isOn s
  | .fzAtImc status value => Sys2Proof.Machine.execFzAtImc status value s
  | .dfcStateAtImc state => Sys2Proof.Machine.execDfcStateAtImc state s
  | .grantedAtImc target => Sys2Proof.Machine.execGrantedAtImc target s
  | .fillSecond => Sys2Proof.Machine.execFillSecond s
  | .closedAtImc cause => Sys2Proof.Machine.execClosedAtImc cause s
  | .preemptionCountAtImc count => Sys2Proof.Machine.execPreemptionCountAtImc count s
  | .settledAtImc cause total => Sys2Proof.Machine.execSettledAtImc cause total s
  | .fillEndAtImc total => Sys2Proof.Machine.execFillEndAtImc total s
  | .withdrawnAtImc => Sys2Proof.Machine.execWithdrawnAtImc s
  | .millilitreAtImc => Sys2Proof.Machine.execMillilitreAtImc s
  | .noWaterHoldExpiry => Sys2Proof.Machine.execNoWaterHoldExpiry s
  | .spacingExpiry => Sys2Proof.Machine.execSpacingExpiry s
  | .grantedAtDsc => Sys2Proof.Machine.execGrantedAtDsc s
  | .millilitreAtDsc => Sys2Proof.Machine.execMillilitreAtDsc s
  | .flowSecond => Sys2Proof.Machine.execFlowSecond s
  | .closedAtDsc cause => Sys2Proof.Machine.execClosedAtDsc cause s
  | .settledAtDsc cause total => Sys2Proof.Machine.execSettledAtDsc cause total s
  | .withdrawnAtDsc => Sys2Proof.Machine.execWithdrawnAtDsc s
  | .paddleAssertion => Sys2Proof.Machine.execPaddleAssertion s
  | .paddleRelease => Sys2Proof.Machine.execPaddleRelease s
  | .recoveryMinute => Sys2Proof.Machine.execRecoveryMinute s
  | .loadRequest load duty => Sys2Proof.Machine.execLoadRequest load duty s
  | .loadRelease load => Sys2Proof.Machine.execLoadRelease load s
  | .dutyChange load duty => Sys2Proof.Machine.execDutyChange load duty s
  | .dutyPeriodTimer load => Sys2Proof.Machine.execDutyPeriodTimer load s
  | .railBelowEntry rail => Sys2Proof.Machine.execRailBelowEntry rail s
  | .railAboveExit rail => Sys2Proof.Machine.execRailAboveExit rail s
  | .railFallsBack rail => Sys2Proof.Machine.execRailFallsBack rail s
  | .exitTimerExpiry => Sys2Proof.Machine.execExitTimerExpiry s
  | .eventTaken event => Sys2Proof.Machine.execEventTaken event s
  | .ageSecond => Sys2Proof.Machine.execAgeSecond s
  | .saveRequest => Sys2Proof.Machine.execSaveRequest s
  | .writeEnd => Sys2Proof.Machine.execWriteEnd s
  | .resetnRise => Sys2Proof.Machine.execResetnRise s
  | .supplyRiseAboveResetLevel => Sys2Proof.Machine.execSupplyRiseAboveResetLevel s

end Sys2Proof.Machine
end

