-- ==== Sys2Proof/Machine/Timers.lean ====
section
/-! DEFINITION. What happens when no command waits: the oldest hand-over in flight is taken, else the
expiry of a timer that is due, else 1 ms passes (log 2). -/

namespace Sys2Proof.Machine

open Sys2Proof

/-- SCAN's timers: the six sample periods, the six debounce timers and the count second. -/
def scanTimers (x : Scan) : List (Timer × Instr) :=
  ([Channel.fz, .ev, .im, .ff, .wt, .am].map fun ch =>
    ((getChannel x.chans ch).sampleTimer, Instr.samplePeriod ch (getChannel x.chans ch).reading))
  ++ ([SwitchInput.fzDoor, .ffDoor, .cmpRun, .paddle, .binBeam, .rakeHome].map fun i =>
    ((getSwitch x.switches i).timer, Instr.debounceExpiry i))
  ++ [(x.countTimer, .countSecond)]

/-- Every timer of the part, with the command its expiry is. -/
def allTimers (s : State) : List (Timer × Instr) :=
  scanTimers s.scan ++
  [(s.wpu.noFlowTimer, .noFlowExpiry), (s.wpu.settleTimer, .settleWindowExpiry),
   (s.wpu.leakTimer, .leakMinute), (s.wpu.dayTimer, .daySecond),
   (s.fest.minuteTimer, .accumulationMinute),
   (s.dfc.heatTimer, .heatSecond), (s.dfc.dripTimer, .dripExpiry),
   (s.dfc.recoveryTimer, .recoveryExpiry), (s.dfc.holdTimer, .retryHoldExpiry),
   (s.imc.creditTimer, .creditInterval), (s.imc.harvestTimer, .harvestSecond),
   (s.imc.rakeTimer, .rakeSecond), (s.imc.fillTimer, .fillSecond),
   (s.imc.retryTimer, .retryTimerExpiry), (s.imc.noWaterTimer, .noWaterHoldExpiry),
   (s.dsc.spacingTimer, .spacingExpiry), (s.dsc.flowTimer, .flowSecond),
   (s.dsc.minuteTimer, .recoveryMinute)]
  ++ (loadOrder.map fun x => (dutyTimer (s.load x), Instr.dutyPeriodTimer x))
  ++ [(s.ldm.exitTimer, .exitTimerExpiry), (s.rpu.ageTimer, .ageSecond),
      (s.lnk.replyTimer, .replyEnd), (s.lnk.writeTimer, .writeEnd)]

/-- The earlier of two expiries, the first on a tie (log 4). -/
def earlier (best : Option (Nat × Instr)) (t : Timer × Instr) : Option (Nat × Instr) :=
  match t.1, best with
  | none, b => b
  | some d, none => some (d, t.2)
  | some d, some (b, c) => if d < b then some (d, t.2) else some (b, c)

/-- The command of the timer that was due first, if one is due by now. -/
def dueExpiry (s : State) : Option Instr :=
  match (allTimers s).foldl earlier none with
  | some (d, c) => if d ≤ s.now then some c else none
  | none => none

/-- What the part takes when no command waits, if anything. -/
def nextInternal (s : State) : Option Instr :=
  match s.handovers with
  | c :: _ => some c
  | [] => dueExpiry s

/-- 1 ms passes. -/
def State.tick (s : State) : State := s.withNow (s.now + 1)

end Sys2Proof.Machine
end

