-- ==== Sys2Proof/Machine/Step.lean ====
section
/-! DEFINITION. One step of the part: the command at the front of the queue, and on an empty queue what
Timers.lean gives. -/

namespace Sys2Proof.Machine

open Sys2Proof

/-- The command at the front of the queue is taken on the state with the rest of the queue. On an empty
queue the part takes what its own blocks have brought about, or 1 ms passes (log 2). -/
def step (s : State) : Host.Outcome State Fault Refusal :=
  match s.pending with
  | c :: rest => exec c (s.withPending rest)
  | [] =>
    match nextInternal s with
    | some c => exec c s
    | none => .next s.tick

/-- The command a word spells goes to the front of the queue; no word of the table spells one. -/
def State.withFetchWord (s : State) (nbits w : Nat) : State :=
  match decodeTableWord nbits w with
  | some c => s.withPending (c :: s.pending)
  | none => s

end Sys2Proof.Machine
end

