-- ==== Sys2Proof/Safety.lean ====
section
/-! DEFINITION. What the claims speak of: the invariants of the part, the state in which every reset
leaves it, and the few commands a part held in reset takes. -/

namespace Sys2Proof.Safety

open Sys2Proof Sys2Proof.Machine

/-! ### Invariants -/

/-- R128, R136: the ON total is within the budget in force, and in sag every entry is SHED or OFF. -/
abbrev LoadsWithinBudget (x : Ldm) : Prop :=
  onTotal x.loads ≤ budgetInForce x ∧
    (x.monitor = .sag →
      ∀ l ∈ loadOrder, (getLoad x.loads l).state = .shed ∨ (getLoad x.loads l).state = .off)

/-- R63, R82: IMC is not FILLING while DFC heats or drips. -/
abbrev FillApartFromDefrost (s : State) : Prop :=
  ¬(s.imc.state = .filling ∧ (s.dfc.state = .heat ∨ s.dfc.state = .drip))

/-- R148, R151: level plus free is 32, and ATTN is asserted exactly when its enable is on and the level
has reached ATTN_LEVEL. -/
abbrev ReportQueueSound (r : Rpu) : Prop :=
  r.queue.length + freeSlots r = 32 ∧
    (r.attn = true ↔ r.attnEnable = true ∧ r.attnLevel ≤ r.queue.length)

/-- R107, R118, R119: at most four entries, an active entry is the oldest, no two portions carry one tag,
the chilled estimate is within the tank, and the paddle latch is set only while PADDLE, as handed to DSC,
is asserted (log 47). -/
abbrev DispenseQueueSound (x : Dsc) : Prop :=
  x.queue.length ≤ 4 ∧ (∀ e ∈ x.queue.tail, e.state = .queued) ∧
    ((x.queue.filter fun e => decide (e.kind = .portion)).map (·.tag)).Nodup ∧ x.c ≤ x.vTank ∧
    (x.latch = true → x.paddle = true)

/-- R14, R28, R42, R48, R97: counts in their ranges. -/
abbrev CountsInRange (s : State) : Prop :=
  (s.wpu.residue < s.wpu.meterK ∧ 1000 ≤ s.wpu.meterK) ∧
  (40000 ≤ s.fest.t ∧ s.fest.t ≤ 600000) ∧ s.fest.e ≤ 65535 ∧ s.fest.fillWater ≤ 1000 ∧
  (s.scan.fzSeconds ≤ 60 ∧ s.scan.ffSeconds ≤ 60 ∧ s.scan.cmpSeconds ≤ 60) ∧ s.imc.fillSeconds ≤ 20

/-- R1 to R9: a channel's samples, its value and its watermarks are temperatures in range, its counts
are within 3, and an OK channel has a value. -/
abbrev ChannelSound (r : ChannelRec) : Prop :=
  r.window.length ≤ 4 ∧ (∀ v ∈ r.window, -400 ≤ v ∧ v ≤ 600) ∧
  (∀ v ∈ r.value, -400 ≤ v ∧ v ≤ 600) ∧ r.bad ≤ 3 ∧ r.good ≤ 3 ∧
  (-400 ≤ r.wmin ∧ r.wmin ≤ 600) ∧ (-400 ≤ r.wmax ∧ r.wmax ≤ 600) ∧
  (r.status = .ok → r.value ≠ none)

/-- Every channel is sound. -/
abbrev ChannelsSound (c : Channels) : Prop := ∀ r ∈ channelList c, ChannelSound r

/-! ### Resets -/

/-- R168: the store as a reset finds it: a write cut short leaves the check erased (log 8). -/
def storeAtReset (s : State) : Store :=
  if s.lnk.writing = none then s.store else { s.store with check := none }

/-- TABLE 10-1 with R169: the record a reset leaves, STORE_DEFAULTED as the start-up found the
store `x`. -/
def causesAfter (causes : ResetCauses) (x : Store) : ResetCauses :=
  { causes with storeDefaulted := decide (x.check ≠ some (Config.storeCheck x.values)) }

/-- R169: the values start-up loads from the store `x`: those of a record whose check passes, T clamped,
or the defaults. -/
def valuesLoaded (x : Store) : Config.StoreValues :=
  if x.check = some (Config.storeCheck x.values) then
    { x.values with t := max 40000 (min 600000 x.values.t) }
  else { t := 150000, f := 0, used := 0, capacity := 750000, age := 0 }

/-- R170: `t` is `s` after a reset that left it at the time `s.now`, with the reset cause record
`causes`: TABLE 1-7, 2-4, 3-8, 4-5, 5-5, 6-5, 7-4, 8-4 and 9-8, value by value, the values start-up loaded
(R169), DUCT_HTR requested (R121) and PART_RESET taken (R154). PADDLE as DSC keeps it is released
(R11, log 47). -/
def LeftReset (s t : State) (causes : ResetCauses) : Prop :=
  let v := valuesLoaded (storeAtReset s)
  let second := some (s.now + 1000)
  let minute := some (s.now + 60000)
  let noClaim : Claim :=
    { state := .none, since := none, target := none, charged := 0, preemptions := 0 }
  let unlearned : PathLearning := { overruns := [], anticipation := 0 }
  let off (rated duty : Nat) : LoadEntry :=
    { state := .off, rated := rated, duty := duty, driven := false, period := none }
  t.handovers = [] ∧ t.now = s.now ∧ t.resetnLow = false ∧ t.supplyLow = false ∧
  t.store = storeAtReset s ∧
  (∀ ch, t.channel ch =
    { status := .starting, window := [], value := none, bad := 0, good := 0, wmin := 600,
      wmax := -400, offset := 0, sampleTimer := second, reading := (s.channel ch).reading }) ∧
  (∀ i,
    let low := (getSwitch s.scan.switches i).pinLow
    getSwitch t.scan.switches i =
      { pinLow := low, asserted := false,
        timer := if low then some (s.now + if i = .binBeam then 10000 else 50) else none,
        edge := if i = .fzDoor ∨ i = .ffDoor then 3 else 0 }) ∧
  t.scan.countTimer = second ∧
  (t.scan.fzSeconds = 0 ∧ t.scan.ffSeconds = 0 ∧ t.scan.cmpSeconds = 0) ∧
  t.wpu =
    { path := .idle, sag := true, ice := noClaim, disp := noClaim, grant := none, residue := 0,
      iceLearning := unlearned, dispLearning := unlearned, noFlowTimer := none,
      settleTimer := none, unclaimed := 0, leakBins := [0, 0, 0, 0, 0, 0, 0, 0, 0, 0],
      leakSum := 0, leakLatch := false, leakTimer := minute, used := v.used,
      capacity := v.capacity, age := v.age, daySeconds := 0, dayTimer := second, saveSteps := 0,
      status := filterStatusOf v.used v.capacity v.age 180, meterK := 2200, leakLim := 30,
      ageLim := 180 } ∧
  t.fest =
    { f := v.f, t := v.t, e := 0, fillWater := 0, last := none, minuteTimer := minute, wLo := 3,
      wMid := 5, wHi := 7, wFzDoor := 20, wFfDoor := 8, wFill := 2, minGap := 240,
      backstop := 4320, heatTgt := 900 } ∧
  t.dfc =
    { state := .watch, cmpInhibit := false, fanEn := true, current := none, history := [],
      completionCount := 0, lastCompletion := none, onSeconds := 0, wallSeconds := 0,
      heaterOn := false, fallback := false, heatTimer := none, dripTimer := none,
      recoveryTimer := none, holdTimer := none, defTerm := 70, dripTime := 300 } ∧
  t.imc =
    { state := .off, batch := none, credit := 0, fillSeconds := 0, heatOnSeconds := 0,
      moldOn := false, rakeOnSeconds := 0, rakeOn := false, leftHome := false,
      disablePending := false, claimView := .none, failed := none, creditTimer := none,
      harvestTimer := none, rakeTimer := none, fillTimer := none, retryTimer := none,
      noWaterTimer := none, harvestCount := 0, stallCount := 0, fillTgt := 110, kFreeze := 320,
      startTemp := -120, tubeDuty := 25 } ∧
  t.dsc =
    { queue := [], claimView := .none, last := none, c := 0, latch := false, paddle := false,
      spacingTimer := none, flowTimer := none, minuteTimer := minute, vTank := 900, chillRate := 25,
      paddleMax := 60, ductDuty := 30 } ∧
  t.ldm =
    { loads :=
        { defHtr := off 350 100, moldHtr := off 180 100, rakeMtr := off 5 100,
          fillTubeHtr := off 12 25, ductHtr := { off 8 30 with state := .shed } },
      budget := 400, monitor := .sag,
      exitTimer := if 900 < s.ldm.rail then some (s.now + 2000) else none,
      rail := s.ldm.rail, sagCount := 0, lastSag := s.now } ∧
  t.rpu =
    { flags := 0x8000, enables := 0xFFFB, attnEnable := true,
      queue := [
        { kind := 15, age := 0,
          body := [BitVec.ofNat 8 (causes.powerOn.toNat + 2 * causes.supplyLow.toNat
            + 4 * causes.resetLine.toNat + 8 * causes.linkRequest.toNat
            + 16 * causes.storeDefaulted.toNat)] }],
      alarmDrops := 0, statusDrops := 0, ageTimer := second, attn := true, reserve := 4,
      attnLevel := 1, highLevel := 24 } ∧
  t.lnk =
    { rate := .r9600, receiver := .hunt, rxBuffer := [], replyInProgress := false, reqTag := 0,
      reply := none, replyTimer := none, resetAtReplyEnd := false, framing := 0, noise := 0,
      check := 0, overrun := 0, sync := 0, causes := causes, writing := none, writeTimer := none,
      savePending := false }

/-- The commands that act on a part held in reset: the resets themselves, and the levels of pins and
rail (log 7). -/
def takenWhileHeld : Instr → Bool
  | .powerOn | .supplyLow | .resetLine | .resetnRise | .supplyRiseAboveResetLevel => true
  | .switchPinChange _ _ | .railBelowEntry _ | .railAboveExit _ | .railFallsBack _ => true
  | _ => false

/-! ### Reports -/

/-- What TABLE 8-1 and TABLE 9-7 give an event: its kind number, its class and its body. -/
structure Reported where
  kind : Nat
  alarm : Bool
  body : List Byte

/-- TABLE 8-1 and TABLE 9-7, row by row, with the codes of TABLE 9-6 counted from 1 in the order of that
table. Numbers go low byte first (R161), and HARVEST_DONE and DISPENSE_DONE are packed as TABLE 9-7
gives. -/
def reported (e : Event) : Reported :=
  let n1 (n : Nat) : List Byte := [BitVec.ofNat 8 n]
  let n2 (n : Nat) : List Byte := [BitVec.ofNat 8 n, BitVec.ofNat 8 (n / 256)]
  let n3 (n : Nat) : List Byte :=
    [BitVec.ofNat 8 n, BitVec.ofNat 8 (n / 256), BitVec.ofNat 8 (n / 256 / 256)]
  let channel (c : Channel) : List Byte := n1 ([Channel.fz, .ev, .im, .ff, .wt, .am].idxOf c)
  let reasons : List StartReason := [.threshold, .backstop, .manual]
  let ends : List HeatEnd := [.temp, .maxTime, .fallbackTime, .starved, .aborted]
  let defrost (d : DefrostState) : List Byte :=
    n1 (1 + [DefrostState.watch, .pending, .heat, .drip, .recover].idxOf d)
  let ice (i : IceState) : List Byte :=
    n1 (1 + [IceState.off, .park, .freezing, .heldFull, .harvestHeat, .harvestRake, .rakeRetryWait,
      .fillWait, .filling, .fillPaused, .stalled].idxOf i)
  match e with
  | .sensorFault c k => ⟨0, true, channel c ++ n1 (1 + [FaultKind.openWire, .shorted].idxOf k)⟩
  | .sensorRecovered c v => ⟨1, false, channel c ++ n2 (BitVec.ofInt 16 v).toNat⟩
  | .inputEdge i asserted =>
    ⟨2, false, n1 ([SwitchInput.fzDoor, .ffDoor, .cmpRun, .paddle, .binBeam, .rakeHome].idxOf i)
      ++ n1 (if asserted then 1 else 2)⟩
  | .defrostPhase new prev cause =>
    ⟨3, false, defrost new ++ defrost prev ++ n1 (match cause with
      | none => 0
      | some (.start r) => 1 + reasons.idxOf r
      | some (.finish h) => 4 + ends.idxOf h)⟩
  | .defrostDone reason cause on wall tAfter =>
    ⟨4, false, n1 (1 + reasons.idxOf reason) ++ n1 (1 + ends.idxOf cause) ++ n2 on ++ n2 wall
      ++ n3 (tAfter.getD 0)⟩
  | .iceState new prev => ⟨5, false, ice new ++ ice prev⟩
  | .harvestDone b =>
    ⟨6, false, n1 (b.fillTarget.getD 0) ++ n2 b.charged
      ++ n2 (b.freezeSeconds / 10 + 8192 * [none, some FillEnd.done, some .noWater,
          some .timeLimit, some .disabled].idxOf b.fillEnd)
      ++ n2 (b.creditAtHarvest.getD 0) ++ n2 (b.freezeTarget.getD 0)
      ++ n1 (b.forced.toNat + 2 * b.unknownFill.toNat + 4 * b.heaterTimeout.toNat
        + 8 * b.rakeRetried.toNat + 16 * b.preemptions)⟩
  | .iceStall failed stalls =>
    ⟨7, true, (match failed with
      | .park => ice .park
      | .harvestRake => ice .harvestRake) ++ n1 stalls⟩
  | .noWater charged => ⟨8, true, n2 charged⟩
  | .dispenseDone r =>
    ⟨9, false, [r.tag] ++ n1 (1 + [EntryKind.portion, .paddle].idxOf r.kind) ++ n2 r.charged
      ++ n2 (r.target.getD 0)
      ++ n1 (1 + [Completion.done, .notChilled, .noFlow, .runawayLimit, .supplySag, .userStop,
          .cancelled].idxOf r.cause + 128 * r.warm.toNat)⟩
  | .leak sum => ⟨10, true, n2 sum⟩
  | .filterStatus status used age =>
    ⟨11, false, n1 (1 + [FilterStatus.ok, .due, .expired].idxOf status) ++ n3 used ++ n2 age⟩
  | .supplySag shed => ⟨12, true, n1 shed⟩
  | .supplyRestored seconds => ⟨13, false, n2 seconds⟩
  | .queueHigh level alarmDrops statusDrops =>
    ⟨14, false, n1 level ++ n1 alarmDrops ++ n1 statusDrops⟩
  | .partReset causes =>
    ⟨15, false, n1 (causes.powerOn.toNat + 2 * causes.supplyLow.toNat + 4 * causes.resetLine.toNat
      + 8 * causes.linkRequest.toNat + 16 * causes.storeDefaulted.toNat)⟩

/-! ### What is handed on -/

/-- R8: the hand-over of a channel to its consumer; FF, WT and AM have none that is a step. -/
def channelHandover (ch : Channel) (r : ChannelRec) : List Instr :=
  match ch with
  | .fz => [.fzAtImc r.status r.value]
  | .ev => [.evAtDfc r.status r.value]
  | .im => [.imAtImc r.status r.value]
  | .ff | .wt | .am => []

/-- R12: the hand-over of a switch input to its consumer; the counted inputs have none. -/
def switchHandover (i : SwitchInput) (asserted : Bool) : List Instr :=
  match i with
  | .paddle => [if asserted then .paddleAssertion else .paddleRelease]
  | .binBeam => [.binBeamAtImc asserted]
  | .rakeHome => [.rakeHomeAtImc asserted]
  | .fzDoor | .ffDoor | .cmpRun => []

/-- R37: FILTER_STATUS, raised when the status formed from these values is not the one that stood. -/
def filterEvent (old : FilterStatus) (used capacity age ageLim : Nat) : List Instr :=
  let st := filterStatusOf used capacity age ageLim
  if st = old then [] else [.eventTaken (.filterStatus st used age)]

/-- R35: what a millilitre counted into filter used hands on. -/
def usedHandovers (w : Wpu) : List Instr :=
  if w.used < 9999999 then
    (if 2000 ≤ w.saveSteps + 1 then [.saveRequest] else [])
      ++ filterEvent w.status (w.used + 1) w.capacity w.age w.ageLim
  else []

/-- R35, R37: WPU with one more millilitre counted into filter used. -/
def countedUsed (w : Wpu) : Wpu :=
  if w.used < 9999999 then
    { w with
      used := w.used + 1,
      saveSteps := if 2000 ≤ w.saveSteps + 1 then 0 else w.saveSteps + 1,
      status := filterStatusOf (w.used + 1) w.capacity w.age w.ageLim }
  else w

/-- The hand-over of the path to a claimant (R21). -/
def grantedHandover (who : Claimant) (target : Option Nat) : Instr :=
  match who with
  | .ice => .grantedAtImc target
  | .disp => .grantedAtDsc

/-- The hand-over of a close to the holder (R25). -/
def closedHandover (who : Claimant) (cause : CloseCause) : Instr :=
  match who with
  | .ice => .closedAtImc cause
  | .disp => .closedAtDsc cause

/-- The hand-over at the end of a settle window (R26). -/
def settledHandover (who : Claimant) (cause : CloseCause) (total : Nat) : Instr :=
  match who with
  | .ice => .settledAtImc cause total
  | .disp => .settledAtDsc cause total

/-- The hand-over of a millilitre to the claimant it is charged to, and to FEST for ICE (R29). -/
def millilitreHandovers : Claimant → List Instr
  | .ice => [.millilitreAtImc, .fillWaterMillilitre]
  | .disp => [.millilitreAtDsc]

/-! ### Ends of phases, each as one act -/

/-- R68: HEAT has ended in the state `s` with this cause: DEF_HTR is released, the record holds the
counts and the cause, and DRIP runs. -/
def heatEnded (s : State) (cause : HeatEnd) : State :=
  let u := releaseLoad s .defHtr
  { u with
    handovers := u.handovers ++
      [.heatEndAtFest cause s.dfc.onSeconds,
       .eventTaken (.defrostPhase .drip .heat (some (.finish cause))), .dfcStateAtImc .drip],
    dfc := { s.dfc with
      state := .drip, heatTimer := none, dripTimer := some (s.now + s.dfc.dripTime * 1000),
      current := s.dfc.current.map fun r =>
        { r with onSeconds := some s.dfc.onSeconds, wallSeconds := some s.dfc.wallSeconds,
                 endCause := some cause } } }

/-- R71, R73: the fan has restarted in the state `s`, and the defrost of the record `r` is complete. -/
def fanRestarted (s : State) (r : DefrostRecord) (cause : HeatEnd) : State :=
  { s with
    handovers := s.handovers ++
      [.completionAtFest cause, .saveRequest, .dfcStateAtImc .watch,
       .eventTaken (.defrostPhase .watch .recover (some (.finish cause))),
       .eventTaken (.defrostDone r.reason cause (r.onSeconds.getD 0) (r.wallSeconds.getD 0) r.tAfter)],
    dfc := { s.dfc with
      state := .watch, fanEn := true, recoveryTimer := none, current := none,
      history := (r :: s.dfc.history).take 8, lastCompletion := some s.now,
      completionCount := min 65535 (s.dfc.completionCount + 1),
      holdTimer := if cause = .aborted ∨ cause = .starved then some (s.now + 1800000)
        else s.dfc.holdTimer } }

/-- R82: IMC has entered `new`: the change is handed to DFC and ICE_STATE is raised. `x` gives IMC's
other fields. -/
def iceEntered (s : State) (new : IceState) (x : Imc) : State :=
  { s with
    handovers := s.handovers ++ [.imcStateAtDfc new, .eventTaken (.iceState new s.imc.state)],
    imc := { x with state := new } }

/-- R83: a batch record as it is opened (TABLE 5-2). -/
def openedBatch : BatchRecord :=
  { fillTarget := none, charged := 0, fillEnd := none, preemptions := 0, freezeSeconds := 0,
    creditAtHarvest := none, freezeTarget := none, forced := false, unknownFill := false,
    heaterTimeout := false, rakeRetried := false }

/-- R90: IMC has entered HARVEST_HEAT, with MOLD_HTR requested. -/
def harvestHeatEntered (s : State) : State :=
  iceEntered { s with handovers := s.handovers ++ [.loadRequest .moldHtr 100] } .harvestHeat
    { s.imc with
      batch := s.imc.batch.map fun b => { b with creditAtHarvest := some s.imc.credit },
      heatOnSeconds := 0, moldOn := false, harvestTimer := some (s.now + 1000) }

/-- R91, R92: HARVEST_HEAT has ended: MOLD_HTR is released, RAKE_MTR requested, and IMC has entered
HARVEST_RAKE, its left-home mark set from RAKE_HOME as SCAN holds it (log 46). -/
def harvestHeatEnded (s : State) : State :=
  let u := releaseLoad s .moldHtr
  iceEntered { u with handovers := u.handovers ++ [.loadRequest .rakeMtr 100] } .harvestRake
    { s.imc with
      harvestTimer := none, rakeOnSeconds := 0, rakeTimer := some (s.now + 1000),
      leftHome := !s.switchAsserted .rakeHome }

/-- R98, R87: a fill has ended and IMC has entered FREEZING, the freeze target formed from the mL
charged. -/
def fillFrozen (s : State) (cause : FillEnd) : State :=
  iceEntered s .freezing { s.imc with
    creditTimer := some (s.now + 10000),
    batch := s.imc.batch.map fun b =>
      { b with fillEnd := some cause, freezeTarget := some (min 65535 (b.charged * s.imc.kFreeze)) } }

/-- R101: IMC has entered OFF, its loads released and its timers stopped. -/
def iceOff (s : State) : State :=
  iceEntered (releaseLoad (releaseLoad (releaseLoad s .moldHtr) .rakeMtr) .fillTubeHtr) .off
    { s.imc with
      creditTimer := none, harvestTimer := none, rakeTimer := none, fillTimer := none,
      retryTimer := none, noWaterTimer := none, disablePending := false }

/-- R93: a park or a sweep has failed. -/
def rakeFailed (s : State) (failed : RakeState) : State :=
  let u := releaseLoad { s with imc := { s.imc with rakeTimer := none } } .rakeMtr
  let n := min 255 (s.imc.stallCount + 1)
  if s.imc.disablePending then iceOff u
  else if s.imc.batch.map (·.rakeRetried) = some true then
    iceEntered { u with handovers := u.handovers ++ [.eventTaken (.iceStall failed n)] } .stalled
      { u.imc with stallCount := n }
  else
    iceEntered u .rakeRetryWait { u.imc with
      batch := s.imc.batch.map fun b => { b with rakeRetried := true },
      failed := some failed, retryTimer := some (s.now + 60000) }

/-- R114, R109: the oldest entry, `e`, has completed with this cause. PADDLE's debounced state is
the one last handed to DSC (log 47). -/
def dispenseCompleted (s : State) (e : Entry) (cause : Completion) : State :=
  let record : CompletionRecord :=
    { tag := e.tag, kind := e.kind, target := e.target, charged := e.charged, cause := cause,
      warm := e.warm }
  { s with
    handovers := s.handovers ++ [.eventTaken (.dispenseDone record)],
    dsc := { s.dsc with
      queue := s.dsc.queue.tail, last := some record, flowTimer := none,
      latch := s.dsc.latch || (decide (e.kind = .paddle) && s.dsc.paddle),
      spacingTimer := some (s.now + 2000) } }

/-- R113: the oldest entry, `e`, is stopped in ACTIVE_WAIT: its claim is withdrawn, and it completes. -/
def waitStopped (s : State) (e : Entry) (cause : Completion) : State :=
  dispenseCompleted
    { s with
      handovers := s.handovers ++ [.claimWithdrawn .disp],
      dsc := { s.dsc with claimView := .withdrawing } } e cause

/-- R113: the oldest entry, `e`, is stopped in ACTIVE_FLOW with its valve open: its claim is
released. -/
def flowStopped (s : State) (e : Entry) (cause : Completion) : State :=
  { s with
    handovers := s.handovers ++ [.claimReleased .disp],
    dsc := { s.dsc with queue := { e with stopCause := some cause } :: s.dsc.queue.tail } }

/-! ### Loads -/

/-- R130, R131: the net changes between ON and not ON, handed to the requesters in priority order. IMC
and DSC take those of the trace heaters and change nothing. -/
def netHandovers (old new : Loads) : List Instr :=
  loadOrder.flatMap fun x =>
    let was := decide ((getLoad old x).state = .on)
    let is := decide ((getLoad new x).state = .on)
    if was = is then []
    else match x with
      | .defHtr => [.heaterOnAtDfc is]
      | .moldHtr => [.moldOnAtImc is]
      | .rakeMtr => [.rakeOnAtImc is]
      | .fillTubeHtr | .ductHtr => []

/-- The load table has become `l`, and the net changes are handed. -/
def loadsSet (s : State) (l : Loads) : State :=
  { s with
    handovers := s.handovers ++ netHandovers s.ldm.loads l, ldm := { s.ldm with loads := l } }

/-! ### Parameters -/

/-- `s` with the value of one parameter replaced, and nothing else (R160). -/
def withParam (s : State) (p : Param) (v : Int) : State :=
  let n := v.toNat
  match p with
  | .offset ch =>
    { s with scan := { s.scan with
        chans := setChannel s.scan.chans ch { s.channel ch with offset := v } } }
  | .meterK => { s with wpu := { s.wpu with meterK := n } }
  | .leakLim => { s with wpu := { s.wpu with leakLim := n } }
  | .ageLim => { s with wpu := { s.wpu with ageLim := n } }
  | .wLo => { s with fest := { s.fest with wLo := n } }
  | .wMid => { s with fest := { s.fest with wMid := n } }
  | .wHi => { s with fest := { s.fest with wHi := n } }
  | .wFzDoor => { s with fest := { s.fest with wFzDoor := n } }
  | .wFfDoor => { s with fest := { s.fest with wFfDoor := n } }
  | .wFill => { s with fest := { s.fest with wFill := n } }
  | .minGap => { s with fest := { s.fest with minGap := n } }
  | .backstop => { s with fest := { s.fest with backstop := n } }
  | .heatTgt => { s with fest := { s.fest with heatTgt := n } }
  | .frostT => { s with fest := { s.fest with t := n } }
  | .defTerm => { s with dfc := { s.dfc with defTerm := v } }
  | .dripTime => { s with dfc := { s.dfc with dripTime := n } }
  | .fillTgt => { s with imc := { s.imc with fillTgt := n } }
  | .kFreeze => { s with imc := { s.imc with kFreeze := n } }
  | .startTemp => { s with imc := { s.imc with startTemp := v } }
  | .tubeDuty => { s with imc := { s.imc with tubeDuty := n } }
  | .vTank => { s with dsc := { s.dsc with vTank := n } }
  | .chillRate => { s with dsc := { s.dsc with chillRate := n } }
  | .paddleMax => { s with dsc := { s.dsc with paddleMax := n } }
  | .ductDuty => { s with dsc := { s.dsc with ductDuty := n } }
  | .budget => { s with ldm := { s.ldm with budget := n } }
  | .rated x =>
    { s with ldm := { s.ldm with loads := setLoad s.ldm.loads x { s.load x with rated := n } } }
  | .defDuty =>
    { s with ldm := { s.ldm with
        loads := { s.ldm.loads with defHtr := { s.ldm.loads.defHtr with duty := n } } } }
  | .reserve => { s with rpu := { s.rpu with reserve := n } }
  | .attnLevel => { s with rpu := { s.rpu with attnLevel := n } }
  | .highLevel => { s with rpu := { s.rpu with highLevel := n } }

/-- The parameters whose owner's table has the stored value act beyond being stored: METER_K, FLT_AGE_LIM
(R41), TUBE_DUTY (R102), V_TANK, DUCT_DUTY (R119, R121), BUDGET, the rated powers, DEF_DUTY (R130, R133)
and ATTN_LEVEL (R151). -/
def actsAtOnce : Param → Bool
  | .meterK | .ageLim | .tubeDuty | .vTank | .ductDuty | .budget | .rated _ | .defDuty
  | .attnLevel => true
  | .offset _ | .leakLim | .wLo | .wMid | .wHi | .wFzDoor | .wFfDoor | .wFill | .minGap | .backstop
  | .heatTgt | .frostT | .defTerm | .dripTime | .fillTgt | .kFreeze | .startTemp | .chillRate
  | .paddleMax | .reserve | .highLevel => false

/-! ### Runs of one command -/

/-- The state after `n` meter pulses, if every one of them answers a next state. -/
def pulses : Nat → State → Option State
  | 0, s => some s
  | n + 1, s =>
    match exec .meterPulse s with
    | .next t => pulses n t
    | .fault _ => none
    | .refused _ => none

end Sys2Proof.Safety
end

