-- ==== Sys2Proof/Certificates/Slice0/Obligations.lean ====
section
/-! DEFINITION. The statements for the provers. A statement that gives a whole next state is a frame as
well: what the record update does not name is unchanged. `s.taken c` is `s` with the hand-over `c`, if
it was in flight, in flight no more; `answer` composes the reply frame (O14 says how it reads). -/

open Sys2Proof Sys2Proof.Machine Sys2Proof.Safety

/-! ### The step -/

/-- The command at the front of the queue is what a step runs, on the state with the queue's rest. -/
def Obligations.StepTakesTheFrontCommand : Prop :=
  ∀ (s : State) (c : Instr) (rest : List Instr), s.pending = c :: rest →
    step s = exec c { s with pending := rest }

/-- The model's choice on an empty queue (log 1, log 2): the oldest hand-over, else the expiry of the
timer that was due first, else 1 ms passes. -/
def Obligations.EmptyQueueStep : Prop :=
  ∀ s : State, s.pending = [] →
    (∀ c rest, s.handovers = c :: rest → step s = exec c s) ∧
    (∀ c, s.handovers = [] → dueExpiry s = some c → step s = exec c s) ∧
    (s.handovers = [] → dueExpiry s = none → step s = .next { s with now := s.now + 1 })

/-- Every command answers a next state from every state, and leaves the waiting commands as they
are, also with operands no sender can give (log 36). -/
def Obligations.EveryCommandAnswersNext : Prop :=
  ∀ (c : Instr) (s : State), ∃ t, exec c s = .next t ∧ t.pending = s.pending

/-- A part held in reset takes nothing but resets and the levels of its pins and rail (log 7). -/
def Obligations.HeldPartTakesNothing : Prop :=
  ∀ (c : Instr) (s : State), s.running = false → takenWhileHeld c = false → exec c s = .next s

/-! ### Invariants every step keeps -/

def Obligations.StepKeepsLoadsWithinBudget : Prop :=
  ∀ s t : State, LoadsWithinBudget s.ldm → step s = .next t → LoadsWithinBudget t.ldm

def Obligations.StepKeepsFillApartFromDefrost : Prop :=
  ∀ s t : State, FillApartFromDefrost s → step s = .next t → FillApartFromDefrost t

def Obligations.StepKeepsReportQueueSound : Prop :=
  ∀ s t : State, ReportQueueSound s.rpu → step s = .next t → ReportQueueSound t.rpu

def Obligations.StepKeepsDispenseQueueSound : Prop :=
  ∀ s t : State, DispenseQueueSound s.dsc → step s = .next t → DispenseQueueSound t.dsc

def Obligations.StepKeepsCountsInRange : Prop :=
  ∀ s t : State, CountsInRange s → step s = .next t → CountsInRange t

def Obligations.StepKeepsChannelsSound : Prop :=
  ∀ s t : State, ChannelsSound s.scan.chans → step s = .next t → ChannelsSound t.scan.chans

/-- The state after the first power-on meets the six invariants. -/
def Obligations.ResetMeetsTheInvariants : Prop :=
  LoadsWithinBudget State.reset.ldm ∧ FillApartFromDefrost State.reset ∧
    ReportQueueSound State.reset.rpu ∧ DispenseQueueSound State.reset.dsc ∧
    CountsInRange State.reset ∧ ChannelsSound State.reset.scan.chans

/-! ### Frames on the line -/

/-- TABLE 9-2, TABLE 9-5: the KIND and payload written for a request are read as that request; the codes
of the table name its requests, payload bytes low byte first, and no other code has a payload length. -/
def Obligations.RequestCodesRoundTrip : Prop :=
  let bare : List (Byte × Instr) :=
    [(0x01, .identify), (0x02, .linkStatus), (0x03, .readResetCause), (0x04, .resetPart),
      (0x10, .readSensors), (0x11, .readWatermarks), (0x12, .readInputs), (0x20, .waterStatus),
      (0x21, .filterStatus), (0x30, .frostStatus), (0x40, .defrostStart), (0x41, .defrostAbort),
      (0x42, .defrostStatus), (0x50, .iceEnable), (0x51, .iceDisable), (0x52, .iceForceHarvest),
      (0x53, .iceStatus), (0x62, .dispenseStatus), (0x70, .loadStatus), (0x78, .readEvents),
      (0x7C, .readReportCounts)]
  let withPayload : List (Byte × Nat) :=
    [(0x08, 5), (0x09, 1), (0x13, 2), (0x22, 3), (0x43, 1), (0x60, 4), (0x61, 1), (0x79, 2),
      (0x7A, 3), (0x7B, 1)]
  (∀ (i : Instr) (kind : Byte) (payload : List Byte), encodeRequest i = some (kind, payload) →
    lookupRequest kind payload = .request i ∧ payload.length ≤ 64) ∧
  (∀ kind : Byte, requestLength kind =
    ((bare.map fun (r : Byte × Instr) => (r.1, 0)) ++ withPayload).lookup kind) ∧
  (∀ r ∈ bare, lookupRequest r.1 [] = .request r.2) ∧
  ∀ a b c d e : Byte,
    lookupRequest 0x08 [a, b, c, d, e] = .request (.setParam a (e ++ d ++ c ++ b)) ∧
    lookupRequest 0x09 [a] = .request (.getParam a) ∧
    lookupRequest 0x13 [a, b] = .request (.setEdge a b) ∧
    lookupRequest 0x22 [a, b, c] = .request (.filterReset (c ++ b ++ a)) ∧
    lookupRequest 0x43 [a] = .request (.readDefrostHistory a) ∧
    lookupRequest 0x60 [a, b, c, d] = .request (.dispensePortion a (c ++ b) d) ∧
    lookupRequest 0x61 [a] = .request (.dispenseCancel a) ∧
    lookupRequest 0x79 [a, b] = .request (.clearEvents (b ++ a)) ∧
    lookupRequest 0x7A [a, b, c] = .request (.setReportEnables (b ++ a) c) ∧
    lookupRequest 0x7B [a] = .request (.fetchReports a)

/-- R155, R157 to R159: a request frame of TABLE 9-2 received whole and undisturbed in BODY, with no reply
in progress, is accepted, and its request is handed to its owner. One command brings the whole body
(log 27). -/
def Obligations.AcceptedFrameReachesItsOwner : Prop :=
  ∀ (s : State) (i : Instr) (tag kind check : Byte) (payload : List Byte) (bytes : List LineByte)
    (last : LineByte),
    s.running = true → s.lnk.receiver = .body → s.lnk.rxBuffer = [] →
    s.lnk.replyInProgress = false → encodeRequest i = some (kind, payload) →
    let body := [BitVec.ofNat 8 payload.length, kind, tag] ++ payload ++ [check]
    byteSum body = 0 → bytes ++ [last] = body.map sentByte →
    let c := Instr.frameCompletion bytes last
    exec c s = .next { s.taken c with
      handovers := (s.taken c).handovers ++ [i],
      lnk := { s.lnk with
        receiver := .hunt, rxBuffer := [], replyInProgress := true, reqTag := tag } }

/-- TABLE 9-3: the bytes of a reply frame; the 8-bit sum of the bytes after SYNC is 0. KIND + 0x80
keeps the low 8 bits of the sum (log 42). TABLE 9-4: the result codes. R158, R159: an answer puts that
frame, with the TAG last accepted (log 11), in progress at the rate in force, for ten bit times a byte
(log 10). -/
def Obligations.ReplyFrameSumsToZero : Prop :=
  (([.ok, .clamped, .badLength, .badKind, .badParam, .refusedState, .queueFull, .unknownTag,
    .duplicateTag] : List Result).map resultCode = [0, 1, 2, 3, 4, 5, 6, 7, 8]) ∧
  (∀ (s : State) (kind : Byte) (result : Result) (payload : List Byte),
    let bytes := replyFrame kind s.lnk.reqTag result payload
    let bps := match s.lnk.rate with
      | .r9600 => 9600
      | .r19200 => 19200
      | .r38400 => 38400
      | .r57600 => 57600
    answer s kind result payload = { s with
      lnk := { s.lnk with
        replyInProgress := true, reply := some { rate := s.lnk.rate, bytes := bytes },
        replyTimer := some (s.now + (bytes.length * 10000 + bps - 1) / bps) } }) ∧
  ∀ (kind tag : Byte) (result : Result) (payload : List Byte), payload.length ≤ 64 →
    ∃ check : Byte,
      replyFrame kind tag result payload =
        [0xF0, BitVec.ofNat 8 payload.length, kind + 0x80, tag, resultCode result] ++ payload
          ++ [check] ∧
      byteSum ((replyFrame kind tag result payload).drop 1) = 0

/-! ### Arithmetic the rules fix -/

/-- R28: a run of pulses produces the whole part of (r + 1000p)/K in millilitres, all of which reach
filter used (R35), and leaves the remainder as the residue. -/
def Obligations.PulseRunMetersWholeMillilitres : Prop :=
  ∀ (n : Nat) (s : State), s.running = true → 1000 ≤ s.wpu.meterK → s.wpu.residue < s.wpu.meterK →
    s.wpu.used + (s.wpu.residue + 1000 * n) / s.wpu.meterK ≤ 9999999 →
    ∃ t, pulses n s = some t ∧
      t.wpu.used = s.wpu.used + (s.wpu.residue + 1000 * n) / s.wpu.meterK ∧
      t.wpu.residue = (s.wpu.residue + 1000 * n) % s.wpu.meterK

/-- R3: the mean of the window to the nearest tenth, a half toward +∞: the value less a half is at most
the mean, and the mean is below the value and a half. -/
def Obligations.FormedValueIsTheNearestMean : Prop :=
  ∀ w : List Int, w ≠ [] → w.length ≤ 4 → (∀ v ∈ w, -400 ≤ v ∧ v ≤ 600) →
    let n : Int := w.length
    2 * n * formedValue w - n ≤ 2 * w.sum ∧ 2 * w.sum < 2 * n * formedValue w + n ∧
      -400 ≤ formedValue w ∧ formedValue w ≤ 600

/-! ### Resets and start-up (Section 10) -/

/-- R168 to R170, R172: the four kinds of reset and the two rises, from every state. `held s causes` is `s`
with every block in its state after reset and the record as given; `starts` says that the part has left
reset. RESETN and a low supply hold the part, each until its own rise; a POWER_ON with RESETN low sets
POWER_ON alone, a SUPPLY_LOW on a held part sets no flag, and pins and rail move while the part is held
(log 7). The clock goes on through a reset (log 4), and a write cut short leaves an erased check and the
values that stood before (log 8). PADDLE as DSC keeps it is released (log 47). -/
def Obligations.ResetsStartThePart : Prop :=
  let held (s : State) (causes : ResetCauses) : State := { s with
    handovers := [], scan := heldScan s.scan, wpu := .held, fest := .held, dfc := .held,
    imc := .held, dsc := .held, ldm := .held s.ldm.rail s.now, rpu := .held, lnk := .held causes,
    store := storeAtReset s }
  let powerOnAlone : ResetCauses :=
    { powerOn := true, supplyLow := false, resetLine := false, linkRequest := false,
      storeDefaulted := false }
  ∀ s : State,
    let starts (c : Instr) (at' : State) (causes : ResetCauses) : Prop :=
      ∃ t, exec c at' = .next t ∧ t.pending = s.pending ∧
        LeftReset s t (causesAfter causes (storeAtReset s))
    let was := s.lnk.causes
    (s.resetnLow = false → starts .powerOn s powerOnAlone) ∧
    (s.resetnLow = true →
      exec .powerOn s = .next { held s powerOnAlone with supplyLow := false }) ∧
    (s.running = true → ∃ u,
      u = { held s { was with supplyLow := true } with supplyLow := true } ∧
      exec .supplyLow s = .next u ∧
      starts .supplyRiseAboveResetLevel u { was with supplyLow := true }) ∧
    (s.running = false → exec .supplyLow s = .next { s with supplyLow := true }) ∧
    (∃ u, u = { held s { was with resetLine := true } with resetnLow := true } ∧
      exec .resetLine s = .next u ∧
      (s.supplyLow = false → starts .resetnRise u { was with resetLine := true })) ∧
    (s.resetnLow = false → exec .resetnRise s = .next s) ∧
    (s.resetnLow = true → s.supplyLow = false → starts .resetnRise s was) ∧
    (s.resetnLow = true → s.supplyLow = true →
      exec .resetnRise s = .next { held s was with resetnLow := false }) ∧
    (s.supplyLow = false → exec .supplyRiseAboveResetLevel s = .next s) ∧
    (s.supplyLow = true → s.resetnLow = false → starts .supplyRiseAboveResetLevel s was) ∧
    (s.supplyLow = true → s.resetnLow = true →
      exec .supplyRiseAboveResetLevel s = .next { held s was with supplyLow := false }) ∧
    (∀ due, s.running = true → s.lnk.replyTimer = some due → s.lnk.resetAtReplyEnd = true →
      ∃ t, exec .replyEnd s = .next t ∧ t.pending = s.pending ∧
        LeftReset { s with now := max s.now due } t
          (causesAfter { was with linkRequest := true } (storeAtReset s)))

/-! ### LNK (Section 9) -/

/-- R155, R156: break, end of break, and sync byte. A break in BODY discards the frame with a framing
error; a snap stands even when the sync byte is then discarded. After a snap the four high data bits and
the stop bit are sampled: samples that disagree, a low stop bit, and a byte other than 0xF0 discard the
frame, in this order (log 26). A SYNC_BYTE whose low reaches the break length is a break that ends with its
rising edge, in every receiver state (log 26). -/
def Obligations.BreakAndSyncByte : Prop :=
  let bps (r : Rate) : Nat := match r with
    | .r9600 => 9600
    | .r19200 => 19200
    | .r38400 => 38400
    | .r57600 => 57600
  ∀ s : State, s.running = true →
    (s.lnk.receiver ≠ .body → exec .breakLow s = .next { s.taken .breakLow with
      lnk := { s.lnk with receiver := .inBreak, rxBuffer := [] } }) ∧
    (s.lnk.receiver = .body → exec .breakLow s = .next { s.taken .breakLow with
      lnk := { s.lnk with
        receiver := .inBreak, rxBuffer := [], framing := min 255 (s.lnk.framing + 1) } }) ∧
    (s.lnk.receiver = .inBreak → exec .breakEnd s = .next { s.taken .breakEnd with
      lnk := { s.lnk with receiver := .sync } }) ∧
    (∀ (d : Nat) (m : SyncSamples),
      let c := Instr.syncByte d m
      (13 * 1000000000 ≤ 9600 * d →
        (s.lnk.receiver ≠ .body → exec c s = .next { s.taken c with
          lnk := { s.lnk with receiver := .sync, rxBuffer := [] } }) ∧
        (s.lnk.receiver = .body → exec c s = .next { s.taken c with
          lnk := { s.lnk with
            receiver := .sync, rxBuffer := [], framing := min 255 (s.lnk.framing + 1) } })) ∧
      (9600 * d < 13 * 1000000000 → s.lnk.receiver = .hunt → exec c s = .next (s.taken c))) ∧
    (∀ (d : Nat) (m : SyncSamples), s.lnk.receiver = .sync → 9600 * d < 13 * 1000000000 →
      let c := Instr.syncByte d m
      (∀ r, 95 * bps r * d ≤ 500000000000 → 500000000000 ≤ 105 * bps r * d →
        (∀ b4 b5 b6 b7 stop : Bool,
          m = { bit4 := sentBit b4, bit5 := sentBit b5, bit6 := sentBit b6, bit7 := sentBit b7,
                stop := sentBit stop } →
          (b4 && b5 && b6 && b7 && stop → exec c s = .next { s.taken c with
            lnk := { s.lnk with rate := r, receiver := .body, rxBuffer := [] } }) ∧
          (stop = false → exec c s = .next { s.taken c with
            lnk := { s.lnk with
              rate := r, receiver := .hunt, rxBuffer := [],
              framing := min 255 (s.lnk.framing + 1) } }) ∧
          (stop = true → (b4 && b5 && b6 && b7) = false → exec c s = .next { s.taken c with
            lnk := { s.lnk with
              rate := r, receiver := .hunt, rxBuffer := [], sync := min 255 (s.lnk.sync + 1) } })) ∧
        ((∃ b ∈ [m.bit4, m.bit5, m.bit6, m.bit7, m.stop], ∀ level, b ≠ sentBit level) →
          exec c s = .next { s.taken c with
            lnk := { s.lnk with
              rate := r, receiver := .hunt, rxBuffer := [],
              noise := min 255 (s.lnk.noise + 1) } })) ∧
      ((∀ r, 500000000000 < 95 * bps r * d ∨ 105 * bps r * d < 500000000000) →
        exec c s = .next { s.taken c with
          lnk := { s.lnk with
            receiver := .hunt, rxBuffer := [], sync := min 255 (s.lnk.sync + 1) } }))

/-- R155: an undisturbed byte is read as it was sent, least significant bit first; a bit whose samples
disagree makes a noise error, a low stop bit after bits that agree makes a framing error, and no byte
after the error is read.
R157, R158: of the bytes so read, a frame in BODY that cannot be, fails its check, overruns a reply or
meets a receive error is discarded under one count; an accepted frame of an unknown kind or a wrong
length is answered and not dispatched (R159). -/
def Obligations.FramesDiscardedOrRefused : Prop :=
  (readLine [] = ([], none) ∧ ∀ (b : LineByte) (more : List LineByte),
    let data := [b.bit0, b.bit1, b.bit2, b.bit3, b.bit4, b.bit5, b.bit6, b.bit7]
    (∀ x : Byte, b = sentByte x →
      readLine (b :: more) = (x :: (readLine more).1, (readLine more).2)) ∧
    ((∃ m ∈ data ++ [b.stop], ∀ level, m ≠ sentBit level) →
      readLine (b :: more) = ([], some .noise)) ∧
    ((∀ m ∈ data, ∃ level, m = sentBit level) → b.stop = sentBit false →
      readLine (b :: more) = ([], some .framing))) ∧
  ∀ (s : State) (bytes : List LineByte) (last : LineByte) (read : List Byte)
    (error : Option RxError),
    s.running = true → s.lnk.receiver = .body → readLine (bytes ++ [last]) = (read, error) →
    let c := Instr.frameCompletion bytes last
    let buffer := s.lnk.rxBuffer ++ read
    (∀ len rest, buffer = len :: rest → 64 < len.toNat → exec c s = .next { s.taken c with
      lnk := { s.lnk with
        receiver := .hunt, rxBuffer := [], check := min 255 (s.lnk.check + 1) } }) ∧
    (∀ len rest, buffer = len :: rest → len.toNat ≤ 64 → rest.length = len.toNat + 3 →
      (byteSum (len :: rest) ≠ 0 → exec c s = .next { s.taken c with
        lnk := { s.lnk with
          receiver := .hunt, rxBuffer := [], check := min 255 (s.lnk.check + 1) } }) ∧
      (byteSum (len :: rest) = 0 → s.lnk.replyInProgress = true → exec c s = .next { s.taken c with
        lnk := { s.lnk with
          receiver := .hunt, rxBuffer := [], overrun := min 255 (s.lnk.overrun + 1) } }) ∧
      (∀ kind tag more, byteSum (len :: rest) = 0 → s.lnk.replyInProgress = false →
        rest = kind :: tag :: more →
        let u := { s.taken c with
          lnk := { s.lnk with
            receiver := .hunt, rxBuffer := [], replyInProgress := true, reqTag := tag } }
        (requestLength kind = none → exec c s = .next (answer u kind .badKind [])) ∧
        (∀ n, requestLength kind = some n → n ≠ len.toNat →
          exec c s = .next (answer u kind .badLength [])))) ∧
    ((∀ len rest, buffer = len :: rest → len.toNat ≤ 64 ∧ rest.length < len.toNat + 3) →
      (error = none → exec c s = .next { s.taken c with
        lnk := { s.lnk with rxBuffer := buffer } }) ∧
      (error = some .noise → exec c s = .next { s.taken c with
        lnk := { s.lnk with
          receiver := .hunt, rxBuffer := [], noise := min 255 (s.lnk.noise + 1) } }) ∧
      (error = some .framing → exec c s = .next { s.taken c with
        lnk := { s.lnk with
          receiver := .hunt, rxBuffer := [], framing := min 255 (s.lnk.framing + 1) } }))

/-- R158: the end of a reply clears the indication. R172: RESET PART is answered OK, and its reset
waits for that end. -/
def Obligations.RepliesEndAndResetPartWaits : Prop :=
  ∀ s : State, s.running = true →
    (∀ due, s.lnk.replyTimer = some due → s.lnk.resetAtReplyEnd = false →
      exec .replyEnd s = .next { s.taken .replyEnd with
        now := max s.now due,
        lnk := { s.lnk with replyInProgress := false, reply := none, replyTimer := none } }) ∧
    ∃ t, exec .resetPart s = .next { t with lnk := { t.lnk with resetAtReplyEnd := true } } ∧
      t = answer (s.taken .resetPart) 0x04 .ok []

/-- R163, byte for byte. -/
def Obligations.IdentifyReply : Prop :=
  requestLength 0x01 = some 0 ∧
  ∀ s : State, s.running = true →
    exec .identify s = .next (answer (s.taken .identify) 0x01 .ok
      [0x51, 0x2E, 0x3E, 0x01, 0x01,
        match s.lnk.rate with
        | .r9600 => 1
        | .r19200 => 2
        | .r38400 => 3
        | .r57600 => 4]) ∧
    ∀ t, exec .identify s = .next t → t.lnk.reply.map (·.rate) = some s.lnk.rate

/-- R164: the five counts in the order given, and 0 afterwards. -/
def Obligations.LinkStatusReply : Prop :=
  requestLength 0x02 = some 0 ∧
  ∀ s : State, s.running = true →
    s.lnk.framing ≤ 255 ∧ s.lnk.noise ≤ 255 ∧ s.lnk.check ≤ 255 ∧ s.lnk.overrun ≤ 255 ∧
      s.lnk.sync ≤ 255 →
    ∃ u, u = answer (s.taken .linkStatus) 0x02 .ok
        [BitVec.ofNat 8 s.lnk.framing, BitVec.ofNat 8 s.lnk.noise, BitVec.ofNat 8 s.lnk.check,
          BitVec.ofNat 8 s.lnk.overrun, BitVec.ofNat 8 s.lnk.sync,
          BitVec.ofNat 8 (rateCode s.lnk.rate)] ∧
      exec .linkStatus s = .next { u with
        lnk := { u.lnk with framing := 0, noise := 0, check := 0, overrun := 0, sync := 0 } }

/-- R171: the record packed as TABLE 9-7 gives, all five flags clear afterwards, and a second read
that reads clear. The report queue, with the PART_RESET body in it, is not touched. -/
def Obligations.ResetCauseRead : Prop :=
  requestLength 0x03 = some 0 ∧
  ∀ s : State, s.running = true →
    let clear : ResetCauses :=
      { powerOn := false, supplyLow := false, resetLine := false, linkRequest := false,
        storeDefaulted := false }
    ∃ u, u = answer (s.taken .readResetCause) 0x03 .ok
        [BitVec.ofNat 8 (s.lnk.causes.powerOn.toNat + 2 * s.lnk.causes.supplyLow.toNat
          + 4 * s.lnk.causes.resetLine.toNat + 8 * s.lnk.causes.linkRequest.toNat
          + 16 * s.lnk.causes.storeDefaulted.toNat)] ∧
      exec .readResetCause s = .next { u with lnk := { u.lnk with causes := clear } } ∧
      ∀ t v, exec .readResetCause s = .next t → exec .readResetCause t = .next v →
        v.rpu = s.rpu ∧ v.lnk.reply = some
          { rate := s.lnk.rate, bytes := replyFrame 0x03 s.lnk.reqTag .ok [0] }

/-- R160: an id in a list stores the value brought into its range and answers it; an id in none is
answered BAD_PARAM with a value of 0, and nothing is stored. GET PARAM answers the stored value.
R41, R102, R119, R121, R130, R133, R140, R151: what a stored value does beyond being stored, where its
owner's table says so. Each next state is whole: what it does not name is unchanged. The ids and ranges
are those of TABLES 1-6, 2-3, 3-6, 3-7, 4-4, 5-4, 6-4, 7-3 and 8-3. -/
def Obligations.ParametersStoreAndAct : Prop :=
  let table : List (Byte × Param × Int × Int) :=
    [(10, .offset .fz, -50, 50), (11, .offset .ev, -50, 50), (12, .offset .im, -50, 50),
      (13, .offset .ff, -50, 50), (14, .offset .wt, -50, 50), (15, .offset .am, -50, 50),
      (20, .meterK, 1000, 6000), (21, .leakLim, 10, 200), (22, .ageLim, 30, 365),
      (30, .wLo, 0, 20), (31, .wMid, 0, 20), (32, .wHi, 0, 20), (33, .wFzDoor, 0, 100),
      (34, .wFfDoor, 0, 100), (35, .wFill, 0, 10), (36, .minGap, 60, 720),
      (37, .backstop, 1440, 5760), (38, .heatTgt, 300, 1800), (39, .frostT, 40000, 600000),
      (40, .defTerm, 40, 150), (41, .dripTime, 60, 900), (50, .fillTgt, 60, 180),
      (51, .kFreeze, 200, 400), (52, .startTemp, -200, -80), (53, .tubeDuty, 0, 100),
      (60, .vTank, 500, 1500), (61, .chillRate, 5, 60), (62, .paddleMax, 10, 120),
      (63, .ductDuty, 0, 100), (70, .budget, 200, 600), (71, .rated .defHtr, 100, 600),
      (72, .rated .moldHtr, 50, 300), (73, .rated .rakeMtr, 1, 20),
      (74, .rated .fillTubeHtr, 1, 40), (75, .rated .ductHtr, 1, 40), (76, .defDuty, 50, 100),
      (80, .reserve, 0, 8), (81, .attnLevel, 1, 32), (82, .highLevel, 1, 32)]
  let bytes4 (v : Int) : List Byte :=
    let n := (BitVec.ofInt 32 v).toNat
    [BitVec.ofNat 8 n, BitVec.ofNat 8 (n / 256), BitVec.ofNat 8 (n / 256 / 256),
      BitVec.ofNat 8 (n / 256 / 256 / 256)]
  (∀ id : Byte, paramOf id.toNat = (table.lookup id).map (·.1)) ∧
  (∀ r ∈ table, paramLo r.2.1 = r.2.2.1 ∧ paramHi r.2.1 = r.2.2.2) ∧
  ∀ (s : State) (id : Byte) (value : BitVec 32), s.running = true →
    let c := Instr.setParam id value
    (paramOf id.toNat = none →
      exec c s = .next (answer (s.taken c) 0x08 .badParam [id, 0, 0, 0, 0]) ∧
      exec (.getParam id) s =
        .next (answer (s.taken (.getParam id)) 0x09 .badParam [id, 0, 0, 0, 0])) ∧
    (∀ p, paramOf id.toNat = some p →
      exec (.getParam id) s =
        .next (answer (s.taken (.getParam id)) 0x09 .ok (id :: bytes4 (paramValue s p))) ∧
      let v := max (paramLo p) (min (paramHi p) value.toInt)
      let n := v.toNat
      let u := withParam (s.taken c) p v
      let stored (t : State) : Prop :=
        exec c s = .next (answer t 0x08 (if v = value.toInt then .ok else .clamped)
          (id :: bytes4 v))
      let hands (l : List Instr) : State := { u with handovers := u.handovers ++ l }
      (paramValue u p = v ∧ ∀ q, q ≠ p → paramValue u q = paramValue s q) ∧
      (actsAtOnce p = false → stored u) ∧
      (p = .meterK → stored { u with wpu := { u.wpu with residue := 0 } }) ∧
      (p = .ageLim →
        let status := filterStatusOf s.wpu.used s.wpu.capacity s.wpu.age n
        let w := hands (if status = s.wpu.status then []
          else [.eventTaken (.filterStatus status s.wpu.used s.wpu.age)])
        stored { w with wpu := { u.wpu with status := status } }) ∧
      (p = .vTank → stored { u with dsc := { u.dsc with c := min s.dsc.c n } }) ∧
      (p = .attnLevel → stored { u with rpu := { u.rpu with
        attn := s.rpu.attnEnable && decide (n ≤ s.rpu.queue.length) } }) ∧
      (p = .budget ∨ (∃ x, p = .rated x) →
        (s.ldm.monitor = .sag → stored u) ∧
        (s.ldm.monitor = .normal →
          let b := u.ldm.budget
          let l := evaluateLoads s.now b (returnLoads b u.ldm.loads)
          stored { hands (netHandovers s.ldm.loads l) with ldm := { u.ldm with loads := l } })) ∧
      (p = .defDuty →
        let e := s.load .defHtr
        let output (driven : Bool) (period : Option DutyPeriod) : State :=
          { u with ldm := { u.ldm with loads := { u.ldm.loads with
              defHtr := { e with duty := n, driven := driven, period := period } } } }
        (e.state ≠ .on ∨ (e.period = none ∧ 100 ≤ n) ∨ (e.period ≠ none ∧ n < 100) →
          stored (output e.driven e.period)) ∧
        (e.state = .on → e.period = none → n < 100 →
          stored (output true (some { start := s.now, duty := n }))) ∧
        (e.state = .on → e.period ≠ none → 100 ≤ n → stored (output true none))) ∧
      (p = .tubeDuty →
        let old := s.imc.tubeDuty
        (s.imc.state = .off ∨ (old = n ∧ n ≠ 0) → stored u) ∧
        (s.imc.state ≠ .off →
          (old = 0 → n ≠ 0 → stored (hands [.loadRequest .fillTubeHtr n])) ∧
          (old ≠ 0 → n ≠ 0 → old ≠ n → stored (hands [.dutyChange .fillTubeHtr n])) ∧
          (n = 0 → stored (releaseLoad u .fillTubeHtr)))) ∧
      (p = .ductDuty →
        let old := s.dsc.ductDuty
        (old = n → n ≠ 0 → stored u) ∧
        (old = 0 → n ≠ 0 → stored (hands [.loadRequest .ductHtr n])) ∧
        (old ≠ 0 → n ≠ 0 → old ≠ n → stored (hands [.dutyChange .ductHtr n])) ∧
        (n = 0 → stored (releaseLoad u .ductHtr))))

/-- The requests that only answer, byte for byte: R16, R17, R39, R56, R77, R78, R104, R123, R139 and
R143, encoded as R161 gives (log 18). Nothing else changes. The codes are those of TABLE 9-6, absent 0. -/
def Obligations.StatusRequestsOnlyAnswer : Prop :=
  ([.starting, .ok, .faultOpen, .faultShort].map channelStatusCode = [1, 2, 3, 4] ∧
    [.watch, .pending, .heat, .drip, .recover].map defrostStateCode = [1, 2, 3, 4, 5] ∧
    [.threshold, .backstop, .manual].map startReasonCode = [1, 2, 3] ∧
    [.temp, .maxTime, .fallbackTime, .starved, .aborted].map heatEndCode = [1, 2, 3, 4, 5] ∧
    [none, some .low, some .mid, some .high, some .notOk].map bandCode = [0, 1, 2, 3, 4] ∧
    [none, some .threshold, some .backstop].map offerCode = [0, 1, 2] ∧
    [.off, .park, .freezing, .heldFull, .harvestHeat, .harvestRake, .rakeRetryWait, .fillWait,
      .filling, .fillPaused, .stalled].map iceStateCode = [1, 2, 3, 4, 5, 6, 7, 8, 9, 10, 11] ∧
    [none, some .done, some .noWater, some .timeLimit, some .disabled].map fillEndCode
      = [0, 1, 2, 3, 4] ∧
    [.idle, .opened, .settling].map pathStateCode = [1, 2, 3] ∧
    [.ice, .disp].map claimantCode = [1, 2] ∧
    [.none, .waiting, .granted].map claimStateCode = [0, 1, 2] ∧
    [.none, .waiting, .granted, .withdrawing].map claimViewCode = [0, 1, 2, 3] ∧
    [none, some .closePoint, some .released, some .noFlow, some .preempted, some .sag].map
      closeCauseCode = [0, 1, 2, 3, 4, 5] ∧
    [.portion, .paddle].map entryKindCode = [1, 2] ∧
    [none, some .queued, some .activeWait, some .activeFlow].map entryStateCode = [0, 1, 2, 3] ∧
    [none, some .opened, some .closed].map valveViewCode = [0, 1, 2] ∧
    [none, some .done, some .notChilled, some .noFlow, some .runawayLimit, some .supplySag,
      some .userStop, some .cancelled].map completionCode = [0, 1, 2, 3, 4, 5, 6, 7] ∧
    [.off, .waiting, .on, .shed].map loadStateCode = [1, 2, 3, 4] ∧
    [.r9600, .r19200, .r38400, .r57600].map rateCode = [1, 2, 3, 4]) ∧
  let n1 (n : Nat) : List Byte := [BitVec.ofNat 8 n]
  let n2 (n : Nat) : List Byte := [BitVec.ofNat 8 n, BitVec.ofNat 8 (n / 256)]
  let n3 (n : Nat) : List Byte :=
    [BitVec.ofNat 8 n, BitVec.ofNat 8 (n / 256), BitVec.ofNat 8 (n / 256 / 256)]
  let count (n : Nat) : List Byte := n2 (min n 65535)
  let temp (v : Temp) : List Byte := n2 (BitVec.ofInt 16 v).toNat
  let present (field : Nat → List Byte) (x : Option Nat) : List Byte :=
    match x with
    | some n => 1 :: field n
    | none => 0 :: field 0
  let batch (b : BatchRecord) : List Byte :=
    n1 (b.fillTarget.getD 0) ++ n2 b.charged ++ n1 (fillEndCode b.fillEnd) ++ n1 b.preemptions
      ++ n2 b.freezeSeconds ++ present n2 b.creditAtHarvest ++ n2 (b.freezeTarget.getD 0)
      ++ n1 (b.forced.toNat + 2 * (b.unknownFill.toNat
        + 2 * (b.heaterTimeout.toNat + 2 * b.rakeRetried.toNat)))
  ∀ s : State, s.running = true →
    let answered (c : Instr) (kind : Byte) (payload : List Byte) : Prop :=
      exec c s = .next (answer (s.taken c) kind .ok payload)
    let since (t : Nat) : Nat := (s.now - t) / 1000
    let left (t : Nat) : Nat := (t - s.now) / 1000
    let claim (x : Claim) : List Byte := n1 (claimStateCode x.state)
      ++ present count (if x.state = .waiting then x.since.map since else none)
    let defrost (counts : Option Nat → List Byte) (r : DefrostRecord) : List Byte :=
      n1 (startReasonCode r.reason) ++ n3 r.frost ++ present n2 r.gap ++ n3 (r.tBefore.getD 0)
        ++ n3 (r.tAfter.getD 0) ++ counts r.onSeconds ++ counts r.wallSeconds
        ++ n1 ((r.endCause.map heatEndCode).getD 0)
    let heats : Prop := s.dfc.state = .heat
    let harvests : Prop := s.imc.state = .harvestHeat
    let rakes : Prop := s.imc.state = .park ∨ s.imc.state = .harvestRake
    let retries : Prop := s.imc.state = .rakeRetryWait
    answered .readSensors 0x10 ([Channel.fz, .ev, .im, .ff, .wt, .am].flatMap fun ch =>
      let r := s.channel ch
      n1 (channelStatusCode r.status)
        ++ (match r.value with
          | some v => 1 :: temp v
          | none => [0, 0, 0])
        ++ n1 r.window.length ++ n1 r.bad ++ n1 r.good) ∧
    answered .readInputs 0x12
      (([SwitchInput.fzDoor, .ffDoor, .cmpRun, .paddle, .binBeam, .rakeHome].flatMap fun i =>
        let r := getSwitch s.scan.switches i
        n1 r.asserted.toNat ++ n1 r.edge.toNat)
        ++ n1 s.scan.fzSeconds ++ n1 s.scan.ffSeconds ++ n1 s.scan.cmpSeconds) ∧
    answered .waterStatus 0x20
      (n1 (pathStateCode s.wpu.path) ++ n1 (s.wpu.sag.toNat + 2 * s.wpu.leakLatch.toNat)
        ++ (match s.wpu.grant with
          | none => [0]
          | some g => [1] ++ n1 (claimantCode g.holder) ++ n2 (g.target.getD 0) ++ n2 g.charged
            ++ n2 (g.closePoint.getD 0) ++ count (since g.time) ++ n1 (closeCauseCode g.cause))
        ++ claim s.wpu.ice ++ claim s.wpu.disp ++ n1 s.wpu.ice.preemptions ++ n2 s.wpu.residue
        ++ n1 s.wpu.iceLearning.anticipation ++ n1 s.wpu.iceLearning.overruns.length
        ++ n1 s.wpu.dispLearning.anticipation ++ n1 s.wpu.dispLearning.overruns.length
        ++ n2 s.wpu.unclaimed ++ n2 s.wpu.leakSum) ∧
    answered .frostStatus 0x30
      (n3 s.fest.f ++ n3 s.fest.t ++ n2 s.fest.e
        ++ (match s.fest.last with
          | none => n2 0 ++ [0]
          | some m => n2 m.deltaF ++ [1] ++ n1 m.frozen.toNat ++ n1 m.r ++ n1 m.df ++ n1 m.dr
            ++ n2 m.w ++ n1 (bandCode m.band) ++ present n1 m.kA ++ n2 m.deltaF
            ++ n1 (offerCode m.offer))
        ++ n2 s.fest.fillWater) ∧
    answered .defrostStatus 0x42
      (n1 (defrostStateCode s.dfc.state) ++ n1 (s.dfc.cmpInhibit.toNat + 2 * s.dfc.fanEn.toNat)
        ++ present count (s.dfc.holdTimer.map left)
        ++ present n1 (if s.dfc.state = .pending
          then some (decide (s.imc.state = .filling)).toNat else none)
        ++ present n2 (if heats then some s.dfc.onSeconds else none)
        ++ present n2 (if heats then some s.dfc.wallSeconds else none)
        ++ present n1 (if heats
          then some (s.dfc.heaterOn.toNat + 2 * s.dfc.fallback.toNat) else none)
        ++ present count (s.dfc.dripTimer.map left)
        ++ present count (s.dfc.recoveryTimer.map fun t => (s.now + 480000 - t) / 1000)
        ++ (match s.dfc.current with
          | none => [0]
          | some r => 1 :: defrost (present n2) r)
        ++ n2 s.dfc.completionCount
        ++ present count (s.dfc.lastCompletion.map fun t => (s.now - t) / 60000)) ∧
    answered .iceStatus 0x53
      (n1 (iceStateCode s.imc.state) ++ n1 s.imc.disablePending.toNat
        ++ n1 (claimViewCode s.imc.claimView) ++ n2 s.imc.credit ++ n1 s.imc.fillSeconds
        ++ present count (if harvests then some s.imc.heatOnSeconds else none)
        ++ present n1 (if harvests then some s.imc.moldOn.toNat else none)
        ++ present count (if rakes then some s.imc.rakeOnSeconds else none)
        ++ present n1 (if rakes then some (s.imc.rakeOn.toNat + 2 * s.imc.leftHome.toNat) else none)
        ++ present count (if retries then s.imc.retryTimer.map left else none)
        ++ n1 (if retries then
          match s.imc.failed with
          | some .park => 2
          | some .harvestRake => 6
          | none => 0
          else 0)
        ++ present count (s.imc.noWaterTimer.map left)
        ++ (match s.imc.batch with
          | none => [0]
          | some b => 1 :: batch b)
        ++ n2 s.imc.harvestCount ++ n1 s.imc.stallCount) ∧
    answered .dispenseStatus 0x62
      (n1 s.dsc.queue.length
        ++ (s.dsc.queue.flatMap fun e =>
          [e.tag] ++ n1 (entryKindCode e.kind) ++ n2 (e.target.getD 0)
            ++ n1 (e.chilledOnly.toNat + 2 * e.warm.toNat) ++ n1 (entryStateCode (some e.state))
            ++ n1 (valveViewCode e.valve) ++ n1 e.openSeconds ++ n1 (completionCode e.stopCause)
            ++ n2 e.charged)
        ++ n1 (claimViewCode s.dsc.claimView) ++ n2 s.dsc.c ++ n2 s.dsc.vTank ++ n1 s.dsc.latch.toNat
        ++ present count (s.dsc.spacingTimer.map left)
        ++ (match s.dsc.last with
          | none => [0]
          | some r => [1, r.tag] ++ n1 (entryKindCode r.kind) ++ n2 (r.target.getD 0) ++ n2 r.charged
            ++ n1 (completionCode (some r.cause)) ++ n1 r.warm.toNat)) ∧
    answered .loadStatus 0x70
      (([Load.defHtr, .moldHtr, .rakeMtr, .fillTubeHtr, .ductHtr].flatMap fun x =>
        let e := s.load x
        n1 (loadStateCode e.state)
          ++ (match x with
            | .defHtr | .moldHtr => n2 e.rated
            | .rakeMtr | .fillTubeHtr | .ductHtr => n1 e.rated)
          ++ n1 e.duty ++ n1 e.driven.toNat)
        ++ n2 ((loadOrder.map fun x => if (s.load x).state = .on then (s.load x).rated else 0).sum)
        ++ n2 s.ldm.budget ++ n2 (if s.ldm.monitor = .sag then 0 else s.ldm.budget)
        ++ n1 (if s.ldm.monitor = .sag then 2 else 1) ++ n1 s.ldm.exitTimer.isSome.toNat
        ++ n1 (min 150 (s.ldm.rail / 10)) ++ n1 s.ldm.sagCount
        ++ present count (if s.ldm.monitor = .sag then some (since s.ldm.lastSag) else none)) ∧
    answered .readEvents 0x78
      (n2 s.rpu.flags.toNat ++ n2 s.rpu.enables.toNat
        ++ n1 (s.rpu.attnEnable.toNat + 2 * s.rpu.attn.toNat) ++ n1 s.rpu.queue.length) ∧
    (∀ index : Byte,
      let c := Instr.readDefrostHistory index
      let head := n2 s.dfc.completionCount ++ n1 s.dfc.history.length
      (index.toNat ≤ 7 → answered c 0x43 (head
        ++ ((s.dfc.history.drop index.toNat).take 3).flatMap (defrost fun x => n2 (x.getD 0)))) ∧
      (7 < index.toNat → exec c s = .next (answer (s.taken c) 0x43 .badParam head)))

/-- R40, byte for byte. -/
def Obligations.FilterStatusReply : Prop :=
  requestLength 0x21 = some 0 ∧
  ∀ s : State, s.running = true →
    exec .filterStatus s = .next (answer (s.taken .filterStatus) 0x21 .ok
      [BitVec.ofNat 8 s.wpu.used, BitVec.ofNat 8 (s.wpu.used / 256),
        BitVec.ofNat 8 (s.wpu.used / 256 / 256),
        BitVec.ofNat 8 s.wpu.capacity, BitVec.ofNat 8 (s.wpu.capacity / 256),
        BitVec.ofNat 8 (s.wpu.capacity / 256 / 256),
        BitVec.ofNat 8 s.wpu.age, BitVec.ofNat 8 (s.wpu.age / 256),
        BitVec.ofNat 8 s.wpu.ageLim, BitVec.ofNat 8 (s.wpu.ageLim / 256),
        match s.wpu.status with
        | .ok => 1
        | .due => 2
        | .expired => 3])

/-! ### SCAN (Section 1) -/

/-- R10: the pairs are answered as they stand, min and max of each channel in channel-number order, two
bytes each (R161), then reset, and the pin of a channel that is still faulted is applied again.
R13: a code is stored, 3 for one above 3; an input number of 6 or more is answered BAD_PARAM, with a
code byte that the spec leaves open (log 19). -/
def Obligations.WatermarksAndEdgeCodes : Prop :=
  let temp (v : Temp) : List Byte :=
    let n := (BitVec.ofInt 16 v).toNat
    [BitVec.ofNat 8 n, BitVec.ofNat 8 (n / 256)]
  (∀ s : State, s.running = true →
      ∃ u chans,
        u = answer (s.taken .readWatermarks) 0x11 .ok
          ([Channel.fz, .ev, .im, .ff, .wt, .am].flatMap fun ch =>
            temp (s.channel ch).wmin ++ temp (s.channel ch).wmax) ∧
        exec .readWatermarks s = .next { u with scan := { s.scan with chans := chans } } ∧
        ∀ ch, getChannel chans ch = { getChannel s.scan.chans ch with
          wmin := if (getChannel s.scan.chans ch).status = .faultOpen then -400 else 600,
          wmax := if (getChannel s.scan.chans ch).status = .faultShort then 600 else -400 }) ∧
  (∀ (s : State) (input code : Byte), s.running = true →
      let c := Instr.setEdge input code
      (6 ≤ input.toNat → ∃ b, exec c s = .next
        { answer (s.taken c) 0x13 .badParam [input, b] with freeCount := s.freeCount + 1 }) ∧
      (∀ i, input.toNat = inputNumber i → exec c s = .next (answer
        { s.taken c with
          scan := { s.scan with
            switches := setSwitch s.scan.switches i
              { getSwitch s.scan.switches i with edge := BitVec.ofNat 2 (min code.toNat 3) } } }
        0x13 (if code.toNat ≤ 3 then .ok else .clamped) [input, BitVec.ofNat 8 (min code.toNat 3)])))

/-- R1, R4, R5, R7, R8, R9: a valid sample in each status. The hand-overs of FF, WT and AM are no
steps (log 40). -/
def Obligations.ValidSamples : Prop :=
  ∀ (s : State) (ch : Channel) (reading : Temp) (due : Nat), s.running = true →
    (s.channel ch).sampleTimer = some due →
    -400 ≤ reading + (s.channel ch).offset → reading + (s.channel ch).offset ≤ 600 →
    let c := Instr.samplePeriod ch reading
    let r : ChannelRec := { s.channel ch with sampleTimer := some (due + 1000), reading := reading }
    let v := reading + r.offset
    let w := (if r.window.length < 4 then r.window else r.window.tail) ++ [v]
    let after (r' : ChannelRec) (handed : List Instr) : State := { s.taken c with
      now := max s.now due, handovers := (s.taken c).handovers ++ handed,
      scan := { s.scan with chans := setChannel s.scan.chans ch r' } }
    (r.status = .starting →
      let r' : ChannelRec := { r with
        status := .ok, bad := 0, window := [v], value := some v,
        wmin := min r.wmin v, wmax := max r.wmax v }
      exec c s = .next (after r' (channelHandover ch r'))) ∧
    (r.status = .ok →
      let x := formedValue w
      let r' : ChannelRec := { r with
        bad := 0, window := w, value := some x, wmin := min r.wmin x, wmax := max r.wmax x }
      exec c s = .next (after r' (channelHandover ch r'))) ∧
    (r.status = .faultOpen ∨ r.status = .faultShort → r.good < 2 →
      exec c s = .next (after { r with window := w, good := r.good + 1 } [])) ∧
    (r.status = .faultOpen ∨ r.status = .faultShort → 2 ≤ r.good →
      let x := formedValue w
      let r' : ChannelRec := { r with
        status := .ok, bad := 0, good := 0, window := w, value := some x,
        wmin := min r.wmin x, wmax := max r.wmax x }
      exec c s = .next (after r' (.eventTaken (.sensorRecovered ch x) :: channelHandover ch r')))

/-- R1, R4 to R9: an out-of-range sample. The third in a row enters the fault of its kind, with the
value held and the pin applied; in a fault it starts the recovery afresh. The hand-overs of FF, WT
and AM are no steps (log 40). -/
def Obligations.OutOfRangeSamples : Prop :=
  ∀ (s : State) (ch : Channel) (reading : Temp) (due : Nat) (k : FaultKind), s.running = true →
    (s.channel ch).sampleTimer = some due →
    (k = .openWire → reading + (s.channel ch).offset < -400) →
    (k = .shorted → 600 < reading + (s.channel ch).offset) →
    let c := Instr.samplePeriod ch reading
    let r : ChannelRec := { s.channel ch with sampleTimer := some (due + 1000), reading := reading }
    let after (r' : ChannelRec) (handed : List Instr) : State := { s.taken c with
      now := max s.now due, handovers := (s.taken c).handovers ++ handed,
      scan := { s.scan with chans := setChannel s.scan.chans ch r' } }
    let entered (bad : Nat) : ChannelRec := { r with
      status := if k = .openWire then .faultOpen else .faultShort,
      window := [], bad := bad, good := 0,
      wmin := if k = .openWire then -400 else r.wmin,
      wmax := if k = .shorted then 600 else r.wmax }
    (r.status = .starting ∨ r.status = .ok →
      (r.bad < 2 → exec c s = .next (after { r with bad := r.bad + 1 } [])) ∧
      (2 ≤ r.bad → exec c s = .next (after (entered 3)
        (.eventTaken (.sensorFault ch k) :: channelHandover ch (entered 3))))) ∧
    (r.status = .faultOpen ∨ r.status = .faultShort →
      (r.status = (entered r.bad).status →
        exec c s = .next (after { r with window := [], good := 0 } [])) ∧
      (r.status ≠ (entered r.bad).status → exec c s = .next (after (entered r.bad)
        (.eventTaken (.sensorFault ch k) :: channelHandover ch (entered r.bad)))))

/-- R11, R12, R14: pin changes, the end of a debounce time, and the count second. A pin keeps its level
also while the part is held in reset, where nothing is compared (log 7). The hand-overs of the counted
inputs are no steps (log 40). -/
def Obligations.SwitchInputsDebounce : Prop :=
  (∀ (s : State) (i : SwitchInput) (low : Bool),
    let r := getSwitch s.scan.switches i
    let after (t : Timer) := { s with
      scan := { s.scan with
        switches := setSwitch s.scan.switches i { r with pinLow := low, timer := t } } }
    (s.running = false → exec (.switchPinChange i low) s = .next (after r.timer)) ∧
    (s.running = true → low = r.asserted → exec (.switchPinChange i low) s = .next (after none)) ∧
    (s.running = true → low ≠ r.asserted → r.timer = none →
      exec (.switchPinChange i low) s =
        .next (after (some (s.now + if i = .binBeam then 10000 else 50)))) ∧
    (s.running = true → low ≠ r.asserted → r.timer ≠ none →
      exec (.switchPinChange i low) s = .next (after r.timer))) ∧
  (∀ (s : State) (i : SwitchInput) (due : Nat), s.running = true →
    (getSwitch s.scan.switches i).timer = some due →
    let c := Instr.debounceExpiry i
    let r := getSwitch s.scan.switches i
    exec c s = .next { s.taken c with
      now := max s.now due,
      handovers := (s.taken c).handovers ++ switchHandover i r.pinLow
        ++ (if r.edge.getLsbD (if r.pinLow then 0 else 1)
            then [.eventTaken (.inputEdge i r.pinLow)] else []),
      scan := { s.scan with
        switches := setSwitch s.scan.switches i { r with asserted := r.pinLow, timer := none } } }) ∧
  (∀ (s : State) (due : Nat), s.running = true → s.scan.countTimer = some due →
    let w := s.scan.switches
    exec .countSecond s = .next { s.taken .countSecond with
      now := max s.now due,
      scan := { s.scan with
        countTimer := some (due + 1000),
        fzSeconds := if w.fzDoor.asserted then min 60 (s.scan.fzSeconds + 1) else s.scan.fzSeconds,
        ffSeconds := if w.ffDoor.asserted then min 60 (s.scan.ffSeconds + 1) else s.scan.ffSeconds,
        cmpSeconds :=
          if w.cmpRun.asserted then min 60 (s.scan.cmpSeconds + 1) else s.scan.cmpSeconds } })

/-! ### WPU (Section 2) -/

/-- R22, R23, R30: the arbiter's decision. DISP goes before ICE, unless ICE has waited 120 s. A remaining
volume below 0 is taken as 0 (log 24). -/
def Obligations.ArbiterDecides : Prop :=
  ∀ s : State,
    let granted (who : Claimant) : State :=
      let c := getClaim s.wpu who
      let g := c.target.map (· - c.charged)
      { s with
        handovers := s.handovers ++ [grantedHandover who c.target],
        wpu := { setClaim s.wpu who { c with state := .granted } with
          path := .opened, noFlowTimer := some (s.now + 5000),
          grant := some
            { holder := who, target := g, charged := 0, time := s.now, cause := none,
              closePoint := g.map fun g => g - min (getLearning s.wpu who).anticipation (g / 2) } } }
    let ice := s.wpu.ice.state = .waiting
    let disp := s.wpu.disp.state = .waiting
    (s.wpu.path ≠ .idle ∨ s.wpu.sag = true ∨ (¬ice ∧ ¬disp) → arbitrate s = s) ∧
    (s.wpu.path = .idle → s.wpu.sag = false →
      (ice → ¬disp → arbitrate s = granted .ice) ∧
      (disp → ¬ice → arbitrate s = granted .disp) ∧
      (∀ since, ice → disp → s.wpu.ice.since = some since → 120000 ≤ s.now - since →
        arbitrate s = granted .ice) ∧
      (∀ since, ice → disp → s.wpu.ice.since = some since → s.now - since < 120000 →
        arbitrate s = granted .disp))

/-- R21, R24, R25: a claim made. One that is not NONE stays as it is; one that is NONE becomes WAITING,
and then a DISP claim preempts a fill of fewer than two preemptions, or the arbiter decides. -/
def Obligations.ClaimsAreMade : Prop :=
  ∀ (s : State) (who : Claimant) (target : Option Nat) (charged preemptions : Nat),
    s.running = true →
    let c := Instr.claimMade who target charged preemptions
    let w := setClaim s.wpu who
      { state := .waiting, since := some s.now, target := target, charged := charged,
        preemptions := preemptions }
    ((getClaim s.wpu who).state ≠ .none → exec c s = .next (s.taken c)) ∧
    ((getClaim s.wpu who).state = .none →
      (∀ g, who = .disp → s.wpu.path = .opened → s.wpu.grant = some g → g.holder = .ice →
        s.wpu.ice.preemptions < 2 →
        exec c s = .next { s.taken c with
          handovers := (s.taken c).handovers ++
            [.preemptionCountAtImc (s.wpu.ice.preemptions + 1), .closedAtImc .preempted],
          wpu := { w with
            path := .settling, grant := some { g with cause := some .preempted },
            noFlowTimer := none, settleTimer := some (s.now + 1000),
            ice := { s.wpu.ice with
              state := .waiting, since := some s.now,
              preemptions := s.wpu.ice.preemptions + 1 } } }) ∧
      (who = .ice ∨ s.wpu.path ≠ .opened ∨ s.wpu.grant.map (·.holder) ≠ some .ice ∨
          2 ≤ s.wpu.ice.preemptions →
        exec c s = .next (arbitrate { s.taken c with wpu := w })))

/-- R21, R25, R32: a claim withdrawn, a claim released, and no flow for 5 s. A release of a WAITING
claim changes nothing (log 29). -/
def Obligations.ClaimsEndAndNoFlow : Prop :=
  ∀ (s : State) (who : Claimant), s.running = true →
    ((getClaim s.wpu who).state = .waiting →
      exec (.claimWithdrawn who) s = .next { s.taken (.claimWithdrawn who) with
        handovers := (s.taken (.claimWithdrawn who)).handovers
          ++ [if who = .ice then .withdrawnAtImc else .withdrawnAtDsc],
        wpu := setClaim s.wpu who
          { state := .none, since := none, target := none, charged := 0, preemptions := 0 } }) ∧
    ((getClaim s.wpu who).state ≠ .waiting →
      exec (.claimWithdrawn who) s = .next (s.taken (.claimWithdrawn who))) ∧
    (∀ g, s.wpu.path = .opened → s.wpu.grant = some g →
      (g.holder = who → (getClaim s.wpu who).state = .granted →
        exec (.claimReleased who) s = .next { s.taken (.claimReleased who) with
          handovers := (s.taken (.claimReleased who)).handovers ++ [closedHandover who .released],
          wpu := { s.wpu with
            path := .settling, grant := some { g with cause := some .released },
            noFlowTimer := none, settleTimer := some (s.now + 1000) } }) ∧
      (∀ due, s.wpu.noFlowTimer = some due →
        exec .noFlowExpiry s = .next { s.taken .noFlowExpiry with
          now := max s.now due,
          handovers := (s.taken .noFlowExpiry).handovers ++ [closedHandover g.holder .noFlow],
          wpu := { s.wpu with
            path := .settling, grant := some { g with cause := some .noFlow },
            noFlowTimer := none, settleTimer := some (max s.now due + 1000) } })) ∧
    (s.wpu.path ≠ .opened ∨ (getClaim s.wpu who).state ≠ .granted →
      exec (.claimReleased who) s = .next (s.taken (.claimReleased who)))

/-- R28, R29, R33, R34, R35: a pulse that makes no millilitre, and one whose millilitre no grant record
accounts for: it goes to the unclaimed count and to the leak window.
R29, R30, R32, R35: a millilitre charged to the holder of the grant record, in SETTLING and in OPEN,
where it restarts the no-flow timer and closes the coil at the close point (log 24). The charged total
of a claim does not saturate (log 31). -/
def Obligations.MillilitresAreCharged : Prop :=
  (∀ s : State, s.running = true →
      (s.wpu.residue + 1000 < s.wpu.meterK → exec .meterPulse s =
        .next { s.taken .meterPulse with wpu := { s.wpu with residue := s.wpu.residue + 1000 } }) ∧
      (∀ bin bins, s.wpu.meterK ≤ s.wpu.residue + 1000 → s.wpu.path = .idle →
        s.wpu.leakBins = bin :: bins →
        let sum := min 65535 (s.wpu.leakSum + 1)
        let leak := s.wpu.leakLim ≤ sum ∧ s.wpu.leakLatch = false
        exec .meterPulse s = .next { s.taken .meterPulse with
          handovers := (s.taken .meterPulse).handovers
            ++ (if leak then [.eventTaken (.leak sum)] else []) ++ usedHandovers s.wpu,
          wpu := countedUsed { s.wpu with
            residue := s.wpu.residue + 1000 - s.wpu.meterK,
            unclaimed := min 65535 (s.wpu.unclaimed + 1),
            leakBins := min 65535 (bin + 1) :: bins, leakSum := sum,
            leakLatch := s.wpu.leakLatch || decide (s.wpu.leakLim ≤ sum) } })) ∧
  (∀ (s : State) (g : Grant), s.running = true → s.wpu.meterK ≤ s.wpu.residue + 1000 →
      s.wpu.grant = some g →
      let w := { s.wpu with residue := s.wpu.residue + 1000 - s.wpu.meterK }
      let claim := getClaim w g.holder
      let w := if claim.state = .none then w
        else setClaim w g.holder { claim with charged := claim.charged + 1 }
      let n := g.charged + 1
      let after (w : Wpu) (closed : List Instr) : State := { s.taken .meterPulse with
        handovers := (s.taken .meterPulse).handovers ++ millilitreHandovers g.holder ++ closed
          ++ usedHandovers s.wpu,
        wpu := countedUsed w }
      (s.wpu.path = .settling → exec .meterPulse s =
        .next (after { w with grant := some { g with charged := n } } [])) ∧
      (s.wpu.path = .opened → (∀ p, g.closePoint = some p → n < p) → exec .meterPulse s =
        .next (after { w with
          grant := some { g with charged := n }, noFlowTimer := some (s.now + 5000) } [])) ∧
      (∀ p, s.wpu.path = .opened → g.closePoint = some p → p ≤ n → exec .meterPulse s =
        .next (after { w with
          grant := some { g with charged := n, cause := some .closePoint }, path := .settling,
          noFlowTimer := none, settleTimer := some (s.now + 1000) }
          [closedHandover g.holder .closePoint])))

/-- R26, R31: the end of a settle window, by its close cause, up to the arbiter's decision. A claim that
becomes NONE has its fields absent or 0 (log 41), and a claim made again within the window hands its own
charged total (log 43). -/
def Obligations.SettleWindowEnds : Prop :=
  ∀ (s : State) (g : Grant) (cause : CloseCause) (due : Nat), s.running = true →
    s.wpu.settleTimer = some due → s.wpu.grant = some g → g.cause = some cause →
    let c := Instr.settleWindowExpiry
    let claim := getClaim s.wpu g.holder
    let total := if claim.state = .none then g.charged else claim.charged
    let remaining := s.wpu.ice.target.getD 0 - s.wpu.ice.charged
    let after (w : Wpu) (handed : List Instr) : State := arbitrate { s.taken c with
      now := max s.now due,
      handovers := (s.taken c).handovers ++ handed ++ [settledHandover g.holder cause total],
      wpu := { w with settleTimer := none, grant := none, path := .idle } }
    (g.holder = .ice → cause = .preempted ∨ cause = .sag →
      (s.wpu.ice.state = .waiting → remaining ≤ 5 →
        exec c s = .next (after { s.wpu with ice := .held } [.fillEndAtImc total])) ∧
      (s.wpu.ice.state ≠ .waiting ∨ 5 < remaining → exec c s = .next (after s.wpu []))) ∧
    (cause = .released ∨ cause = .noFlow ∨ (cause = .sag ∧ g.holder = .disp) →
      exec c s = .next (after (setClaim s.wpu g.holder .held) [])) ∧
    (∀ target, cause = .closePoint → claim.target = some target →
      let old := (getLearning s.wpu g.holder).overruns
      let list := (if old.length < 4 then old else old.tail)
        ++ [max (-30) (min 30 ((total : Int) - target))]
      exec c s = .next (after (setLearning (setClaim s.wpu g.holder .held) g.holder
        { overruns := list,
          anticipation := (max 0 (min 30 (list.sum.tdiv list.length))).toNat }) []))

/-- R27: sag entry and sag exit at WPU. -/
def Obligations.SagAtWaterPath : Prop :=
  ∀ s : State, s.running = true →
    (∀ g, s.wpu.path = .opened → s.wpu.grant = some g →
      exec .wpuSagEntry s = .next { s.taken .wpuSagEntry with
        handovers := (s.taken .wpuSagEntry).handovers ++ [closedHandover g.holder .sag],
        wpu := { s.wpu with
          sag := true, path := .settling, grant := some { g with cause := some .sag },
          noFlowTimer := none, settleTimer := some (s.now + 1000),
          ice := if g.holder = .ice then { s.wpu.ice with state := .waiting, since := some s.now }
            else s.wpu.ice } }) ∧
    (s.wpu.path ≠ .opened → exec .wpuSagEntry s =
      .next { s.taken .wpuSagEntry with wpu := { s.wpu with sag := true } }) ∧
    exec .wpuSagExit s =
      .next (arbitrate { s.taken .wpuSagExit with wpu := { s.wpu with sag := false } })

/-- R33, R34, R36: the leak minute, the clear of the leak latch, and the day second.
R37, R38: the filter status, and FILTER RESET, which leaves it OK under every age limit of the
range. -/
def Obligations.LeakWatchAndFilterAccount : Prop :=
  (∀ (s : State) (due : Nat), s.running = true →
      (∀ bins oldest, s.wpu.leakTimer = some due → s.wpu.leakBins = bins ++ [oldest] →
        exec .leakMinute s = .next { s.taken .leakMinute with
          now := max s.now due,
          wpu := { s.wpu with
            leakBins := 0 :: bins, leakSum := s.wpu.leakSum - oldest,
            leakLatch := s.wpu.leakLatch && decide (oldest < s.wpu.leakSum),
            leakTimer := some (due + 60000) } }) ∧
      exec .leakLatchClear s =
        .next { s.taken .leakLatchClear with wpu := { s.wpu with leakLatch := false } } ∧
      (s.wpu.dayTimer = some due → s.wpu.daySeconds < 86399 →
        exec .daySecond s = .next { s.taken .daySecond with
          now := max s.now due,
          wpu := { s.wpu with
            daySeconds := s.wpu.daySeconds + 1, dayTimer := some (due + 1000) } }) ∧
      (s.wpu.dayTimer = some due → s.wpu.daySeconds = 86399 →
        let age := min 65535 (s.wpu.age + 1)
        exec .daySecond s = .next { s.taken .daySecond with
          now := max s.now due,
          handovers := (s.taken .daySecond).handovers ++ [.saveRequest]
            ++ filterEvent s.wpu.status s.wpu.used s.wpu.capacity age s.wpu.ageLim,
          wpu := { s.wpu with
            daySeconds := 0, age := age, dayTimer := some (due + 1000),
            status := filterStatusOf s.wpu.used s.wpu.capacity age s.wpu.ageLim } })) ∧
  ((∀ used capacity age ageLim : Nat, 14 ≤ ageLim →
      (filterStatusOf used capacity age ageLim = .expired ↔ capacity ≤ used ∨ ageLim ≤ age) ∧
      (filterStatusOf used capacity age ageLim = .ok ↔
        used < capacity ∧ used * 10 < capacity * 9 ∧ age + 14 < ageLim)) ∧
    ∀ (s : State) (capacity : BitVec 24), s.running = true → 30 ≤ s.wpu.ageLim →
      let c := Instr.filterReset capacity
      let n := max 100000 (min 2000000 capacity.toNat)
      exec c s = .next (answer
        { s.taken c with
          handovers := (s.taken c).handovers
            ++ (if s.wpu.status = .ok then [] else [.eventTaken (.filterStatus .ok 0 0)])
            ++ [.saveRequest],
          wpu := { s.wpu with
            capacity := n, used := 0, age := 0, daySeconds := 0, saveSteps := 0, status := .ok } }
        0x22 (if n = capacity.toNat then .ok else .clamped)
        [BitVec.ofNat 8 n, BitVec.ofNat 8 (n / 256), BitVec.ofNat 8 (n / 256 / 256)]))

/-! ### FEST (Section 3) -/

/-- R43, R45 to R48, R50: the accumulation minute. -/
def Obligations.AccumulationMinuteAddsFrost : Prop :=
  ∀ (s : State) (due : Nat), s.running = true → s.fest.minuteTimer = some due →
    ∃ t m, exec .accumulationMinute s = .next t ∧ t.fest.last = some m ∧
      t.scan = { s.scan with fzSeconds := 0, ffSeconds := 0, cmpSeconds := 0 } ∧
      t.fest = { s.fest with
        f := min 16777215 (s.fest.f + m.deltaF), e := min 65535 (s.fest.e + 1), fillWater := 0,
        last := some m, minuteTimer := some (due + 60000) } ∧
      t = { s.taken .accumulationMinute with
        now := max s.now due, scan := t.scan, fest := t.fest,
        handovers := (s.taken .accumulationMinute).handovers ++ (match m.offer with
          | some reason => [.defrostRequest reason t.fest.f]
          | none => []) } ∧
      m.r = s.scan.cmpSeconds ∧ m.df = s.scan.fzSeconds ∧ m.dr = s.scan.ffSeconds ∧
      m.w = s.fest.fillWater ∧
      (m.frozen = true ↔ s.dfc.state = .heat ∨ s.dfc.state = .drip ∨ s.dfc.state = .recover) ∧
      (m.frozen = true → m.band = none ∧ m.kA = none ∧ m.deltaF = 0) ∧
      (m.frozen = false → ∃ band kA, m.band = some band ∧ m.kA = some kA ∧
        m.deltaF = m.r * kA + m.df * s.fest.wFzDoor + m.dr * s.fest.wFfDoor + m.w * s.fest.wFill ∧
        ((s.channel .am).status ≠ .ok → band = .notOk ∧ kA = s.fest.wMid) ∧
        (∀ v, (s.channel .am).status = .ok → (s.channel .am).value = some v →
          (v < 240 → band = .low ∧ kA = s.fest.wLo) ∧
          (240 ≤ v → v ≤ 319 → band = .mid ∧ kA = s.fest.wMid) ∧
          (320 ≤ v → band = .high ∧ kA = s.fest.wHi))) ∧
      (s.fest.backstop ≤ t.fest.e → m.offer = some .backstop) ∧
      (t.fest.e < s.fest.backstop → s.fest.t ≤ t.fest.f → s.fest.minGap ≤ t.fest.e →
        m.offer = some .threshold) ∧
      (t.fest.e < s.fest.backstop → t.fest.f < s.fest.t ∨ t.fest.e < s.fest.minGap →
        m.offer = none)

/-- R44, R49, R52: the fill-water counter, an adaptation of T and F, and a completion. -/
def Obligations.FrostEventsAdapt : Prop :=
  ∀ s : State, s.running = true →
    exec .fillWaterMillilitre s = .next { s.taken .fillWaterMillilitre with
      fest := { s.fest with fillWater := min 1000 (s.fest.fillWater + 1) } } ∧
    (∀ cause, exec (.completionAtFest cause) s = .next { s.taken (.completionAtFest cause) with
      fest := { s.fest with
        e := if cause = .aborted ∨ cause = .starved then s.fest.e else 0 } }) ∧
    (∀ (cause : HeatEnd) (h newT : Nat),
      let x := s.fest
      let clamped (n : Nat) := max 40000 (min 600000 n)
      let light := x.heatTgt * 3 / 4
      let heavy := x.heatTgt * 5 / 4
      (cause = .temp ∧ h < light ∧ newT = clamped (x.t + x.t / 8)) ∨
        (cause = .temp ∧ heavy < h ∧ newT = clamped (x.t - x.t / 8)) ∨
        (cause = .temp ∧ light ≤ h ∧ h ≤ heavy ∧ newT = x.t) ∨
        (cause = .maxTime ∧ newT = clamped (x.t - x.t / 4)) ∨
        ((cause = .fallbackTime ∨ cause = .aborted ∨ cause = .starved) ∧ newT = x.t) →
      exec (.heatEndAtFest cause h) s = .next { s.taken (.heatEndAtFest cause h) with
        handovers := (s.taken (.heatEndAtFest cause h)).handovers ++ [.tHandBack x.t newT],
        fest := { x with
          t := newT, f := if cause = .aborted ∨ cause = .starved then x.f else 0 } })

/-! ### DFC (Section 4) -/

/-- R60 to R64: a request of FEST, DEFROST START, and IMC's leaving FILLING. HEAT is entered in the act
in which IMC is seen not FILLING (log 15).
R72: DEFROST ABORT in PENDING, in HEAT, and refused elsewhere. -/
def Obligations.DefrostsStartAndAbort : Prop :=
  (∀ s : State, s.running = true →
      let opened (reason : StartReason) (frost : Nat) : DefrostRecord :=
        { reason := reason, frost := frost,
          gap := s.dfc.lastCompletion.map fun t => min 65535 ((s.now - t) / 60000),
          tBefore := none, tAfter := none, onSeconds := none, wallSeconds := none, endCause := none }
      let pending (u : State) (reason : StartReason) (frost : Nat) : State := { u with
        handovers := u.handovers ++
          [.eventTaken (.defrostPhase .pending .watch (some (.start reason))),
           .dfcStateAtImc .pending],
        dfc := { u.dfc with state := .pending, current := some (opened reason frost) } }
      let heat (u : State) : State := { u with
        handovers := u.handovers ++
          [.loadRequest .defHtr (s.load .defHtr).duty,
           .eventTaken (.defrostPhase .heat .pending none), .dfcStateAtImc .heat],
        dfc := { u.dfc with
          state := .heat, cmpInhibit := true, fanEn := false, onSeconds := 0, wallSeconds := 0,
          heatTimer := some (s.now + 1000), heaterOn := false,
          fallback := decide ((s.channel .ev).status ≠ .ok) } }
      (∀ reason frost,
        let c := Instr.defrostRequest reason frost
        let r := if reason = .backstop then StartReason.backstop else StartReason.threshold
        (s.dfc.state ≠ .watch ∨ s.dfc.holdTimer ≠ none → exec c s = .next (s.taken c)) ∧
        (s.dfc.state = .watch → s.dfc.holdTimer = none →
          (s.imc.state = .filling → exec c s = .next (pending (s.taken c) r frost)) ∧
          (s.imc.state ≠ .filling → exec c s = .next (heat (pending (s.taken c) r frost))))) ∧
      (let c := Instr.defrostStart
        let u := { s.taken c with dfc := { s.dfc with holdTimer := none } }
        (s.dfc.state ≠ .watch → exec c s = .next
          (answer (s.taken c) 0x40 .refusedState [BitVec.ofNat 8 (defrostStateCode s.dfc.state)])) ∧
        (s.dfc.state = .watch → s.imc.state = .filling →
          exec c s = .next (answer (pending u .manual s.fest.f) 0x40 .ok [2])) ∧
        (s.dfc.state = .watch → s.imc.state ≠ .filling →
          exec c s = .next (answer (heat (pending u .manual s.fest.f)) 0x40 .ok [3]))) ∧
      (∀ ice,
        let c := Instr.imcStateAtDfc ice
        (s.dfc.state = .pending → ice ≠ .filling → s.imc.state ≠ .filling →
          exec c s = .next (heat (s.taken c))) ∧
        (s.dfc.state ≠ .pending ∨ ice = .filling ∨ s.imc.state = .filling →
          exec c s = .next (s.taken c)))) ∧
  (∀ s : State, s.running = true →
      let c := Instr.defrostAbort
      (s.dfc.state = .pending → exec c s = .next (answer
        { s.taken c with
          handovers := (s.taken c).handovers ++
            [.eventTaken (.defrostPhase .watch .pending (some (.finish .aborted))),
             .dfcStateAtImc .watch],
          dfc := { s.dfc with
            state := .watch, current := none, holdTimer := some (s.now + 1800000) } }
        0x41 .ok [1])) ∧
      (s.dfc.state = .heat →
        exec c s = .next (answer (heatEnded (s.taken c) .aborted) 0x41 .ok [4])) ∧
      (s.dfc.state = .watch ∨ s.dfc.state = .drip ∨ s.dfc.state = .recover →
        exec c s = .next
          (answer (s.taken c) 0x41 .refusedState [BitVec.ofNat 8 (defrostStateCode s.dfc.state)])))

/-- R65, R67: a heat second, and the three limits: ON-seconds before the wall cap. -/
def Obligations.HeatSecondsAndLimits : Prop :=
  ∀ (s : State) (due : Nat), s.running = true → s.dfc.state = .heat → s.dfc.heatTimer = some due →
    let on := s.dfc.onSeconds + s.dfc.heaterOn.toNat
    let wall := s.dfc.wallSeconds + 1
    let limit := if s.dfc.fallback then 1200 else 2400
    let u := { s.taken .heatSecond with
      now := max s.now due,
      dfc := { s.dfc with
        onSeconds := on, wallSeconds := wall, heatTimer := some (due + 1000) } }
    (on < limit → wall < 4800 → exec .heatSecond s = .next u) ∧
    (limit ≤ on → s.dfc.fallback = false → exec .heatSecond s = .next (heatEnded u .maxTime)) ∧
    (limit ≤ on → s.dfc.fallback = true → exec .heatSecond s = .next (heatEnded u .fallbackTime)) ∧
    (on < limit → 4800 ≤ wall → exec .heatSecond s = .next (heatEnded u .starved))

/-- R64, R66, R68, R69, R70: what DFC does with EV, with DEF_HTR's grant state (log 16) and with T
handed back. -/
def Obligations.DefrostHandovers : Prop :=
  ∀ s : State, s.running = true →
    (∀ (status : ChannelStatus) (value : Option Temp),
      let c := Instr.evAtDfc status value
      let blind := { s.taken c with dfc := { s.dfc with fallback := true } }
      (∀ v, s.dfc.state = .heat → status = .ok → value = some v →
        (s.dfc.fallback = false → s.dfc.defTerm ≤ v →
          exec c s = .next (heatEnded (s.taken c) .temp)) ∧
        (s.dfc.fallback = true ∨ v < s.dfc.defTerm → exec c s = .next (s.taken c))) ∧
      (s.dfc.state = .heat → status ≠ .ok →
        (s.dfc.onSeconds < 1200 → exec c s = .next blind) ∧
        (1200 ≤ s.dfc.onSeconds → exec c s = .next (heatEnded blind .fallbackTime))) ∧
      (∀ v r cause, s.dfc.state = .recover → s.dfc.current = some r → r.endCause = some cause →
        status = .ok → value = some v → v ≤ -50 →
        exec c s = .next (fanRestarted (s.taken c) r cause)) ∧
      (s.dfc.state = .recover → (status ≠ .ok ∨ ∃ v, value = some v ∧ -50 < v) →
        exec c s = .next (s.taken c)) ∧
      (s.dfc.state = .watch ∨ s.dfc.state = .pending ∨ s.dfc.state = .drip →
        exec c s = .next (s.taken c))) ∧
    (∀ isOn,
      let c := Instr.heaterOnAtDfc isOn
      exec c s = .next { s.taken c with
        dfc := { s.dfc with
          heaterOn := if isOn = false then false
            else if s.dfc.state = .heat then true else s.dfc.heaterOn } }) ∧
    (∀ before after,
      let c := Instr.tHandBack before after
      (s.dfc.state = .drip → exec c s = .next { s.taken c with
        dfc := { s.dfc with
          current := s.dfc.current.map fun r =>
            { r with tBefore := some before, tAfter := some after } } }) ∧
      (s.dfc.state ≠ .drip → exec c s = .next (s.taken c)))

/-- R69 to R71, R73: the end of DRIP, after which a cold evaporator restarts the fan in the same act,
the end of the recovery time, and the end of a retry hold. -/
def Obligations.DripRecoverAndHold : Prop :=
  ∀ (s : State) (due : Nat), s.running = true →
    (s.dfc.state = .drip → s.dfc.dripTimer = some due →
      let c := Instr.dripExpiry
      let u := { s.taken c with
        now := max s.now due,
        handovers := (s.taken c).handovers ++
          [.eventTaken (.defrostPhase .recover .drip none), .dfcStateAtImc .recover],
        dfc := { s.dfc with
          state := .recover, dripTimer := none, cmpInhibit := false,
          recoveryTimer := some (max s.now due + 480000) } }
      ((s.channel .ev).status ≠ .ok → exec c s = .next u) ∧
      (∀ v, (s.channel .ev).status = .ok → (s.channel .ev).value = some v →
        (-50 < v → exec c s = .next u) ∧
        (∀ r cause, v ≤ -50 → s.dfc.current = some r → r.endCause = some cause →
          exec c s = .next (fanRestarted u r cause)))) ∧
    (∀ r cause, s.dfc.recoveryTimer = some due → s.dfc.current = some r → r.endCause = some cause →
      exec .recoveryExpiry s = .next
        (fanRestarted { s.taken .recoveryExpiry with now := max s.now due } r cause)) ∧
    (s.dfc.holdTimer = some due → exec .retryHoldExpiry s = .next
      { s.taken .retryHoldExpiry with
        now := max s.now due, dfc := { s.dfc with holdTimer := none } })

/-! ### IMC (Section 5) -/

/-- R84, R85, R86: ICE ENABLE. From OFF and STALLED a batch of unknown fill is opened, and IMC enters
FREEZING or, with the rake away from home, PARK.
R89, R101: ICE FORCE HARVEST and ICE DISABLE. A disable waits for a harvest to end; in a fill it
releases or withdraws the claim and writes DISABLED. RAKE_HOME is read as SCAN holds it (log 46). -/
def Obligations.IceRequests : Prop :=
  (∀ s : State, s.running = true →
      let c := Instr.iceEnable
      let x := { s.imc with
        batch := some { openedBatch with
          unknownFill := true, freezeTarget := some (min 65535 (s.imc.fillTgt * s.imc.kFreeze)) },
        credit := 0, fillSeconds := 0, disablePending := false }
      let tube := if s.imc.state = .off ∧ 0 < s.imc.tubeDuty
        then [Instr.loadRequest .fillTubeHtr s.imc.tubeDuty] else []
      let u := { s.taken c with handovers := (s.taken c).handovers ++ tube }
      let parked := iceEntered u .park
        { x with rakeOnSeconds := 0, rakeTimer := some (s.now + 1000) }
      (s.imc.state = .off ∨ s.imc.state = .stalled →
        (s.switchAsserted .rakeHome = true → exec c s = .next
          (answer (iceEntered u .freezing { x with creditTimer := some (s.now + 10000) }) 0x50 .ok
            [3])) ∧
        (s.switchAsserted .rakeHome = false → exec c s = .next (answer
          { parked with handovers := parked.handovers ++ [.loadRequest .rakeMtr 100] } 0x50 .ok
            [2]))) ∧
      (s.imc.state = .harvestHeat ∨ s.imc.state = .harvestRake → exec c s = .next (answer
        { s.taken c with imc := { s.imc with disablePending := false } } 0x50 .ok
          [BitVec.ofNat 8 (iceStateCode s.imc.state)])) ∧
      (s.imc.state ≠ .off → s.imc.state ≠ .stalled → s.imc.state ≠ .harvestHeat →
        s.imc.state ≠ .harvestRake → exec c s = .next
          (answer (s.taken c) 0x50 .ok [BitVec.ofNat 8 (iceStateCode s.imc.state)]))) ∧
  (∀ s : State, s.running = true →
      let forced := { s.taken .iceForceHarvest with
        imc := { s.imc with
          creditTimer := none, batch := s.imc.batch.map fun b => { b with forced := true } } }
      (s.imc.state = .freezing ∨ s.imc.state = .heldFull →
        exec .iceForceHarvest s = .next (answer (harvestHeatEntered forced) 0x52 .ok [5])) ∧
      (s.imc.state ≠ .freezing → s.imc.state ≠ .heldFull → exec .iceForceHarvest s = .next
        (answer (s.taken .iceForceHarvest) 0x52 .refusedState
          [BitVec.ofNat 8 (iceStateCode s.imc.state)])) ∧
      (let c := Instr.iceDisable
        let disabled (x : Imc) : Imc :=
          { x with batch := x.batch.map fun b => { b with fillEnd := some .disabled } }
        let withdrawn := { s.taken c with
          handovers := (s.taken c).handovers ++ [.claimWithdrawn .ice],
          imc := { s.imc with claimView := .withdrawing } }
        (s.imc.state = .off → exec c s = .next (answer (s.taken c) 0x51 .ok [1])) ∧
        (s.imc.state = .harvestHeat ∨ s.imc.state = .harvestRake → exec c s = .next (answer
          { s.taken c with imc := { s.imc with disablePending := true } } 0x51 .ok
            [BitVec.ofNat 8 (iceStateCode s.imc.state)])) ∧
        (s.imc.state = .park ∨ s.imc.state = .freezing ∨ s.imc.state = .heldFull ∨
            s.imc.state = .rakeRetryWait ∨ s.imc.state = .stalled →
          exec c s = .next (answer (iceOff (s.taken c)) 0x51 .ok [1])) ∧
        (s.imc.state = .filling → exec c s = .next (answer (iceOff
          { s.taken c with
            handovers := (s.taken c).handovers ++ [.claimReleased .ice], imc := disabled s.imc })
            0x51 .ok [1])) ∧
        (s.imc.state = .fillPaused →
          (s.imc.claimView = .waiting → exec c s = .next (answer (iceOff
            { withdrawn with imc := disabled withdrawn.imc }) 0x51 .ok [1])) ∧
          (s.imc.claimView ≠ .waiting → exec c s = .next (answer (iceOff
            { s.taken c with imc := disabled s.imc }) 0x51 .ok [1]))) ∧
        (s.imc.state = .fillWait →
          (s.imc.claimView = .waiting → exec c s = .next (answer (iceOff withdrawn) 0x51 .ok [1])) ∧
          (s.imc.claimView ≠ .waiting →
            exec c s = .next (answer (iceOff (s.taken c)) 0x51 .ok [1])))))

/-- R86, R88, R90, R91: a credit interval, IM's hand-overs and the bin beam. The harvest point is
reached when the credit has reached the freeze target and IM is cold enough or not OK.
R85, R90, R91: a harvest second with its two limits, and the grant states of MOLD_HTR and
RAKE_MTR. BIN_BEAM at the harvest point and RAKE_HOME at the entry into HARVEST_RAKE are read as SCAN holds
them (log 46). -/
def Obligations.FreezingAndHarvestHeat : Prop :=
  (∀ s : State, s.running = true →
      let goes (u : State) : State :=
        if s.switchAsserted .binBeam then iceEntered u .heldFull u.imc else harvestHeatEntered u
      let reached (credit : Nat) : Prop :=
        ∃ b target, s.imc.batch = some b ∧ b.freezeTarget = some target ∧ target ≤ credit
      let ready (status : ChannelStatus) (value : Option Temp) : Prop :=
        status ≠ .ok ∨ ∃ v, value = some v ∧ v ≤ -100
      (∀ due, s.imc.state = .freezing → s.imc.creditTimer = some due →
        let im := s.channel .im
        let credit := min 65535 (s.imc.credit + match im.status, im.value with
          | .ok, some v => (-20 - v).toNat
          | _, _ => 60)
        let u := { s.taken .creditInterval with
          now := max s.now due,
          imc := { s.imc with
            credit := credit, creditTimer := some (due + 10000),
            batch := s.imc.batch.map fun b =>
              { b with freezeSeconds := min 65535 (b.freezeSeconds + 10) } } }
        (reached credit → ready im.status im.value → exec .creditInterval s =
          .next (goes { u with imc := { u.imc with creditTimer := none } })) ∧
        (¬reached credit ∨ ¬ready im.status im.value → exec .creditInterval s = .next u)) ∧
      (∀ (status : ChannelStatus) (value : Option Temp),
        let c := Instr.imAtImc status value
        (s.imc.state = .freezing →
          (reached s.imc.credit → ready status value → exec c s =
            .next (goes { s.taken c with imc := { s.imc with creditTimer := none } })) ∧
          (¬reached s.imc.credit ∨ ¬ready status value → exec c s = .next (s.taken c))) ∧
        (s.imc.state = .harvestHeat →
          (∀ v, status = .ok → value = some v → 10 ≤ v →
            exec c s = .next (harvestHeatEnded (s.taken c))) ∧
          (∀ v, status = .ok → value = some v → v < 10 → exec c s = .next (s.taken c)) ∧
          (status ≠ .ok → 120 ≤ s.imc.heatOnSeconds →
            exec c s = .next (harvestHeatEnded (s.taken c))) ∧
          (status ≠ .ok → s.imc.heatOnSeconds < 120 → exec c s = .next (s.taken c))) ∧
        (s.imc.state ≠ .freezing → s.imc.state ≠ .harvestHeat → exec c s = .next (s.taken c))) ∧
      (∀ asserted,
        let c := Instr.binBeamAtImc asserted
        (s.imc.state = .heldFull → asserted = false →
          exec c s = .next (harvestHeatEntered (s.taken c))) ∧
        (s.imc.state ≠ .heldFull ∨ asserted = true → exec c s = .next (s.taken c)))) ∧
  (∀ s : State, s.running = true →
      (∀ due, s.imc.state = .harvestHeat → s.imc.harvestTimer = some due →
        let on := s.imc.heatOnSeconds + s.imc.moldOn.toNat
        let u := { s.taken .harvestSecond with
          now := max s.now due,
          imc := { s.imc with heatOnSeconds := on, harvestTimer := some (due + 1000) } }
        (240 ≤ on → exec .harvestSecond s = .next (harvestHeatEnded
          { u with imc := { u.imc with
            batch := s.imc.batch.map fun b => { b with heaterTimeout := true } } })) ∧
        (120 ≤ on → on < 240 → (s.channel .im).status ≠ .ok →
          exec .harvestSecond s = .next (harvestHeatEnded u)) ∧
        (on < 120 ∨ (on < 240 ∧ (s.channel .im).status = .ok) →
          exec .harvestSecond s = .next u)) ∧
      ∀ isOn,
        exec (.moldOnAtImc isOn) s = .next { s.taken (.moldOnAtImc isOn) with
          imc := { s.imc with moldOn := isOn } } ∧
        exec (.rakeOnAtImc isOn) s = .next { s.taken (.rakeOnAtImc isOn) with
          imc := { s.imc with rakeOn := isOn } })

/-- R85, R92 to R94: RAKE_HOME, a rake second with its limits, and the retry. A retry reads RAKE_HOME as SCAN
holds it (log 46); the fill decision of the next batch reads FZ and DFC as they stand (log 14). -/
def Obligations.RakeParksAndSweeps : Prop :=
  ∀ s : State, s.running = true →
    (∀ asserted,
      let c := Instr.rakeHomeAtImc asserted
      let u := releaseLoad { s.taken c with imc := { s.imc with rakeTimer := none } } .rakeMtr
      (s.imc.state = .park → asserted = true → exec c s = .next
        (iceEntered u .freezing { u.imc with creditTimer := some (s.now + 10000) })) ∧
      (s.imc.state = .park → asserted = false → exec c s = .next (s.taken c)) ∧
      (s.imc.state = .harvestRake → asserted = false → exec c s =
        .next { s.taken c with imc := { s.imc with leftHome := true } }) ∧
      (s.imc.state = .harvestRake → asserted = true → s.imc.leftHome = false →
        exec c s = .next (s.taken c)) ∧
      (∀ b, s.imc.state = .harvestRake → asserted = true → s.imc.leftHome = true →
        s.imc.batch = some b →
        let done := { u with
          handovers := u.handovers ++ [.eventTaken (.harvestDone b)],
          imc := { u.imc with harvestCount := min 65535 (s.imc.harvestCount + 1) } }
        (s.imc.disablePending = true → exec c s = .next (iceOff done)) ∧
        (s.imc.disablePending = false → exec c s = .next (decideFill (iceEntered done .fillWait
          { done.imc with batch := some openedBatch, credit := 0, fillSeconds := 0 })
            (s.channel .fz).status (s.channel .fz).value))) ∧
      (s.imc.state ≠ .park → s.imc.state ≠ .harvestRake → exec c s = .next (s.taken c))) ∧
    (∀ due, s.imc.rakeTimer = some due →
      let on := s.imc.rakeOnSeconds + s.imc.rakeOn.toNat
      let u := { s.taken .rakeSecond with
        now := max s.now due,
        imc := { s.imc with rakeOnSeconds := on, rakeTimer := some (due + 1000) } }
      (s.imc.state = .park → on < 20 → exec .rakeSecond s = .next u) ∧
      (s.imc.state = .park → 20 ≤ on → exec .rakeSecond s = .next (rakeFailed u .park)) ∧
      (s.imc.state = .harvestRake → on < 20 → on < 3 ∨ s.imc.leftHome = true →
        exec .rakeSecond s = .next u) ∧
      (s.imc.state = .harvestRake → 20 ≤ on ∨ (3 ≤ on ∧ s.imc.leftHome = false) →
        exec .rakeSecond s = .next (rakeFailed u .harvestRake))) ∧
    (∀ due, s.imc.state = .rakeRetryWait → s.imc.retryTimer = some due →
      let t := max s.now due
      let u := { s.taken .retryTimerExpiry with now := t }
      let asked := [Instr.loadRequest .rakeMtr 100]
      (s.imc.failed = some .park → s.switchAsserted .rakeHome = true →
        let v := iceEntered u .park { s.imc with retryTimer := none }
        exec .retryTimerExpiry s = .next
          (iceEntered v .freezing { v.imc with creditTimer := some (t + 10000) })) ∧
      (s.imc.failed = some .park → s.switchAsserted .rakeHome = false →
        let v := iceEntered u .park { s.imc with
          retryTimer := none, rakeOnSeconds := 0, rakeTimer := some (t + 1000) }
        exec .retryTimerExpiry s = .next { v with handovers := v.handovers ++ asked }) ∧
      (s.imc.failed = some .harvestRake → exec .retryTimerExpiry s = .next
        (iceEntered { u with handovers := u.handovers ++ asked } .harvestRake
          { s.imc with
            retryTimer := none, rakeOnSeconds := 0, rakeTimer := some (t + 1000),
            leftHome := !s.switchAsserted .rakeHome })))

/-- R95: the fill decision, with FZ as given and DFC's present state (log 14).
R83, R95, R98: the events after which IMC makes the fill decision, and a charged millilitre. -/
def Obligations.FillDecisions : Prop :=
  (∀ (s : State) (status : ChannelStatus) (value : Option Temp) (b : BatchRecord),
      s.imc.batch = some b →
      let wanted : Prop := (status ≠ .ok ∨ ∃ v, value = some v ∧ v ≤ s.imc.startTemp) ∧
        s.dfc.state ≠ .heat ∧ s.dfc.state ≠ .drip ∧
        (s.imc.state = .fillWait → s.imc.noWaterTimer = none)
      let remaining := b.fillTarget.getD 0 - b.charged
      let claims (c : Instr) : State :=
        { s with handovers := s.handovers ++ [c], imc := { s.imc with claimView := .waiting } }
      (s.imc.state ≠ .fillWait → s.imc.state ≠ .fillPaused → decideFill s status value = s) ∧
      (s.imc.state = .fillWait → s.imc.claimView = .none → wanted →
        decideFill s status value =
          claims (.claimMade .ice (some s.imc.fillTgt) b.charged 0)) ∧
      (s.imc.state = .fillPaused → s.imc.claimView = .none → wanted → 5 < remaining →
        decideFill s status value =
          claims (.claimMade .ice b.fillTarget b.charged b.preemptions)) ∧
      (s.imc.state = .fillPaused → s.imc.claimView = .none → wanted → remaining ≤ 5 →
        decideFill s status value = fillFrozen s .done) ∧
      (s.imc.state = .fillWait ∨ s.imc.state = .fillPaused →
        (s.imc.claimView = .waiting → ¬wanted → decideFill s status value =
          { s with
            handovers := s.handovers ++ [.claimWithdrawn .ice],
            imc := { s.imc with claimView := .withdrawing } }) ∧
        (s.imc.claimView = .waiting → wanted → decideFill s status value = s) ∧
        (s.imc.claimView = .none → ¬wanted → decideFill s status value = s) ∧
        (s.imc.claimView = .granted ∨ s.imc.claimView = .withdrawing →
          decideFill s status value = s))) ∧
  (∀ s : State, s.running = true →
      let fz := s.channel .fz
      (∀ status value, exec (.fzAtImc status value) s =
        .next (decideFill (s.taken (.fzAtImc status value)) status value)) ∧
      (∀ state, exec (.dfcStateAtImc state) s =
        .next (decideFill (s.taken (.dfcStateAtImc state)) fz.status fz.value)) ∧
      (∀ due, s.imc.noWaterTimer = some due → exec .noWaterHoldExpiry s = .next (decideFill
        { s.taken .noWaterHoldExpiry with
          now := max s.now due, imc := { s.imc with noWaterTimer := none } } fz.status fz.value)) ∧
      exec .withdrawnAtImc s = .next (decideFill
        { s.taken .withdrawnAtImc with imc := { s.imc with claimView := .none } }
          fz.status fz.value) ∧
      exec .millilitreAtImc s = .next { s.taken .millilitreAtImc with
        imc := { s.imc with
          batch := s.imc.batch.map fun b => { b with charged := min 65535 (b.charged + 1) } } })

/-- R96, R97, R99: a grant, a fill second (log 22), a close, and a preemption. Whether the fill is wanted
reads DFC's present state (log 14). -/
def Obligations.FillsRunAndPause : Prop :=
  ∀ s : State, s.running = true →
    let fz := s.channel .fz
    let wanted : Prop := (fz.status ≠ .ok ∨ ∃ v, fz.value = some v ∧ v ≤ s.imc.startTemp) ∧
      s.dfc.state ≠ .heat ∧ s.dfc.state ≠ .drip ∧
      (s.imc.state = .fillWait → s.imc.noWaterTimer = none)
    let paused (u : State) : State := decideFill
      (iceEntered u .fillPaused { u.imc with claimView := .waiting, fillTimer := none })
      fz.status fz.value
    (∀ target,
      let c := Instr.grantedAtImc target
      let takes : Prop := (s.imc.state = .fillWait ∨ s.imc.state = .fillPaused) ∧
        s.imc.claimView = .waiting ∧ wanted
      (takes → exec c s = .next (iceEntered (s.taken c) .filling { s.imc with
        claimView := .granted, fillTimer := some (s.now + 1000),
        batch := s.imc.batch.map fun b =>
          { b with fillTarget := if b.fillTarget = none then target else b.fillTarget } })) ∧
      (¬takes → exec c s = .next { s.taken c with
        handovers := (s.taken c).handovers ++ [.claimReleased .ice],
        imc := { s.imc with claimView := .granted } })) ∧
    (∀ due, s.imc.fillTimer = some due →
      let n := min 20 (s.imc.fillSeconds + 1)
      exec .fillSecond s = .next { s.taken .fillSecond with
        now := max s.now due,
        handovers := (s.taken .fillSecond).handovers
          ++ (if n = 20 then [.claimReleased .ice] else []),
        imc := { s.imc with fillSeconds := n, fillTimer := some (due + 1000) } }) ∧
    (∀ cause,
      let c := Instr.closedAtImc cause
      (s.imc.state = .filling → cause = .sag → exec c s = .next (paused (s.taken c))) ∧
      (s.imc.state = .filling → cause ≠ .sag →
        exec c s = .next { s.taken c with imc := { s.imc with fillTimer := none } }) ∧
      (s.imc.state ≠ .filling → exec c s = .next (s.taken c))) ∧
    (∀ count,
      let c := Instr.preemptionCountAtImc count
      (s.imc.state = .filling → exec c s = .next (paused { s.taken c with
        imc := { s.imc with
          batch := s.imc.batch.map fun b => { b with preemptions := count } } })) ∧
      (s.imc.state ≠ .filling → exec c s = .next (s.taken c)))

/-- R96, R98 to R100: SETTLED at IMC and WPU's fill end. A fill of 20 mL or more, or one that reached its
close point, goes on to FREEZING; a lesser one is abandoned. A fill end leaves the view of the claim to the
SETTLED that follows (log 45). The fill decision reads FZ and DFC as they stand (log 14). -/
def Obligations.FillsEnd : Prop :=
  ∀ (s : State) (b : BatchRecord), s.running = true → s.imc.batch = some b →
    let fz := s.channel .fz
    (∀ (cause : CloseCause) (total : Nat),
      let c := Instr.settledAtImc cause total
      let ended := { s.taken c with
        imc := { s.imc with claimView := .none, fillTimer := none } }
      let viewNone := { s.taken c with imc := { s.imc with claimView := .none } }
      (s.imc.state = .filling →
        (cause = .closePoint → exec c s = .next (fillFrozen ended .done)) ∧
        (∀ e, (cause = .released ∧ e = .timeLimit) ∨ (cause = .noFlow ∧ e = .noWater) →
          (20 ≤ b.charged → exec c s = .next (fillFrozen ended e)) ∧
          (b.charged < 20 → exec c s = .next (decideFill (iceEntered
            { ended with
              handovers := ended.handovers ++ [.eventTaken (.noWater b.charged)] } .fillWait
            { ended.imc with
              batch := some openedBatch, credit := 0, fillSeconds := 0,
              noWaterTimer := some (s.now + 600000) }) fz.status fz.value)))) ∧
      (s.imc.state = .fillPaused →
        (s.imc.claimView = .none → b.fillTarget.getD 0 - b.charged ≤ 5 →
          exec c s = .next (fillFrozen (s.taken c) .done)) ∧
        (s.imc.claimView = .none → 5 < b.fillTarget.getD 0 - b.charged →
          exec c s = .next (decideFill (s.taken c) fz.status fz.value)) ∧
        (s.imc.claimView = .granted → exec c s = .next (decideFill viewNone fz.status fz.value)) ∧
        (s.imc.claimView = .waiting ∨ s.imc.claimView = .withdrawing →
          exec c s = .next (decideFill (s.taken c) fz.status fz.value))) ∧
      (s.imc.state = .fillWait → exec c s = .next (decideFill viewNone fz.status fz.value)) ∧
      (s.imc.state ≠ .filling → s.imc.state ≠ .fillPaused → s.imc.state ≠ .fillWait →
        exec c s = .next viewNone)) ∧
    (∀ total,
      let c := Instr.fillEndAtImc total
      (s.imc.state = .fillPaused → exec c s = .next (fillFrozen (s.taken c) .done)) ∧
      (s.imc.state ≠ .fillPaused → exec c s = .next (s.taken c)))

/-! ### DSC (Section 6) -/

/-- R108: the five tests of DISPENSE PORTION in their order, then the activation test.
R113, R115: DISPENSE CANCEL, by the state in which it finds the entry. Only a cancel writes over a
stop cause that stands. Position and state of a refusal are absent (log 18). A completion reads PADDLE as
last handed to DSC (log 47). -/
def Obligations.PortionsAndCancels : Prop :=
  (∀ (s : State) (tag : Byte) (volume : BitVec 16) (options : Byte), s.running = true →
      let c := Instr.dispensePortion tag volume options
      let refused (r : Result) : State := answer (s.taken c) 0x60 r
        [tag, 0, 0, 0, 0, 0, BitVec.ofNat 8 s.dsc.queue.length]
      let known : Prop := ∃ e ∈ s.dsc.queue, e.tag = tag
      let target := max 20 (min 2000 volume.toNat)
      let e : Entry :=
        { tag := tag, kind := .portion, target := some target, chilledOnly := decide (options = 1),
          state := .queued, valve := none, openSeconds := 0, stopCause := none, charged := 0,
          warm := false }
      let u := testActivation
        { s.taken c with dsc := { s.dsc with queue := s.dsc.queue ++ [e] } }
      (tag = 0 ∨ 1 < options.toNat → exec c s = .next (refused .badParam)) ∧
      (tag ≠ 0 → options.toNat ≤ 1 → known → exec c s = .next (refused .duplicateTag)) ∧
      (tag ≠ 0 → options.toNat ≤ 1 → ¬known → 4 ≤ s.dsc.queue.length →
        exec c s = .next (refused .queueFull)) ∧
      (tag ≠ 0 → options.toNat ≤ 1 → ¬known → s.dsc.queue.length < 4 → exec c s = .next
        (answer u 0x60 (if target = volume.toNat then .ok else .clamped)
          ([tag, BitVec.ofNat 8 target, BitVec.ofNat 8 (target / 256)] ++
            (match u.dsc.queue.findIdx? fun x => decide (x.tag = tag) with
              | some i => [1, BitVec.ofNat 8 i]
              | none => [0, 0]) ++
            [BitVec.ofNat 8 (entryStateCode ((u.dsc.queue.find? fun x => decide (x.tag = tag)).map
              (·.state))), BitVec.ofNat 8 u.dsc.queue.length])))) ∧
  (∀ (s : State) (tag : Byte), s.running = true →
      let c := Instr.dispenseCancel tag
      (tag = 0 → exec c s = .next (answer (s.taken c) 0x61 .badParam [tag, 0])) ∧
      (tag ≠ 0 → (∀ e ∈ s.dsc.queue, e.tag ≠ tag) →
        exec c s = .next (answer (s.taken c) 0x61 .unknownTag [tag, 0])) ∧
      (∀ before e after, tag ≠ 0 → e.tag = tag → e.state = .queued →
        s.dsc.queue = before ++ e :: after → (∀ x ∈ before ++ after, x.tag ≠ tag) →
        exec c s = .next (answer
          { s.taken c with
            handovers := (s.taken c).handovers ++ [.eventTaken (.dispenseDone
              { tag := tag, kind := e.kind, target := e.target, charged := e.charged,
                cause := .cancelled, warm := e.warm })],
            dsc := { s.dsc with queue := before ++ after } }
          0x61 .ok [tag, 1])) ∧
      (∀ e rest, tag ≠ 0 → e.tag = tag → s.dsc.queue = e :: rest →
        (e.state = .activeWait → exec c s =
          .next (answer (waitStopped (s.taken c) e .cancelled) 0x61 .ok [tag, 2])) ∧
        (e.state = .activeFlow → e.valve = some .opened → e.stopCause = none → exec c s =
          .next (answer (flowStopped (s.taken c) e .cancelled) 0x61 .ok [tag, 3])) ∧
        (e.state = .activeFlow → e.valve = some .closed ∨ e.stopCause ≠ none → exec c s =
          .next (answer
            { s.taken c with
              dsc := { s.dsc with queue := { e with stopCause := some .cancelled } :: rest } }
            0x61 .ok [tag, 3]))))

/-- R109: the activation test. A completion reads PADDLE as last handed to DSC (log 47). -/
def Obligations.ActivationTest : Prop :=
  ∀ (s : State) (e : Entry) (rest : List Entry), s.dsc.queue = e :: rest →
    let isOpen : Prop := e.state = .queued ∧ s.dsc.spacingTimer = none ∧ s.dsc.latch = false ∧
      s.dsc.claimView = .none
    let tooWarm : Prop := e.chilledOnly = true ∧ s.dsc.c < e.target.getD 0
    (¬isOpen → testActivation s = s) ∧
    (isOpen → tooWarm → testActivation s = dispenseCompleted s e .notChilled) ∧
    (isOpen → ¬tooWarm → testActivation s = { s with
      handovers := s.handovers ++ [.claimMade .disp e.target 0 0],
      dsc := { s.dsc with
        claimView := .waiting, queue := { e with state := .activeWait } :: rest } })

/-- R109, R110, R112, R114: WPU's hand-overs to DSC, and the end of the spacing. A completion reads PADDLE
as last handed to DSC (log 47). -/
def Obligations.DispenseHandovers : Prop :=
  ∀ s : State, s.running = true →
    let flows (e : Entry) (rest : List Entry) : Prop :=
      s.dsc.queue = e :: rest ∧ e.state = .activeFlow
    (∀ e rest, s.dsc.queue = e :: rest → e.state = .activeWait → exec .grantedAtDsc s =
      .next { s.taken .grantedAtDsc with
        dsc := { s.dsc with
          queue := { e with state := .activeFlow, valve := some .opened } :: rest,
          claimView := .granted, flowTimer := some (s.now + 1000) } }) ∧
    ((∀ e rest, s.dsc.queue = e :: rest → e.state ≠ .activeWait) → exec .grantedAtDsc s =
      .next { s.taken .grantedAtDsc with
        handovers := (s.taken .grantedAtDsc).handovers ++ [.claimReleased .disp],
        dsc := { s.dsc with claimView := .granted } }) ∧
    (∀ cause,
      let c := Instr.closedAtDsc cause
      (∀ e rest, flows e rest → exec c s = .next { s.taken c with
        dsc := { s.dsc with
          queue := { e with valve := some .closed } :: rest, flowTimer := none } }) ∧
      ((∀ e rest, ¬flows e rest) → exec c s = .next (s.taken c))) ∧
    (∀ (cause : CloseCause) (total : Nat),
      let c := Instr.settledAtDsc cause total
      let u := { s.taken c with dsc := { s.dsc with claimView := .none } }
      (∀ e rest completion, flows e rest →
        e.stopCause = some completion ∨ (e.stopCause = none ∧
          ((cause = .closePoint ∧ completion = .done) ∨ (cause = .noFlow ∧ completion = .noFlow) ∨
            (cause = .sag ∧ completion = .supplySag))) →
        exec c s = .next (dispenseCompleted u e completion)) ∧
      ((∀ e rest, ¬flows e rest) → exec c s = .next (testActivation u))) ∧
    exec .withdrawnAtDsc s = .next (testActivation
      { s.taken .withdrawnAtDsc with dsc := { s.dsc with claimView := .none } }) ∧
    (∀ due, s.dsc.spacingTimer = some due → exec .spacingExpiry s = .next (testActivation
      { s.taken .spacingExpiry with
        now := max s.now due, dsc := { s.dsc with spacingTimer := none } }))

/-- R111, R112, R120: a millilitre, a flow second (its count and limit: log 22), and a recovery
minute. -/
def Obligations.DispenseCountsAndEstimate : Prop :=
  ∀ s : State, s.running = true →
    (∀ e rest, s.dsc.queue = e :: rest → e.state = .activeFlow → exec .millilitreAtDsc s =
      .next { s.taken .millilitreAtDsc with
        dsc := { s.dsc with
          c := s.dsc.c - 1,
          queue := { e with
            charged := min 65535 (e.charged + 1), warm := e.warm || decide (s.dsc.c = 0) }
              :: rest } }) ∧
    ((∀ e rest, s.dsc.queue = e :: rest → e.state ≠ .activeFlow) → exec .millilitreAtDsc s =
      .next { s.taken .millilitreAtDsc with
        dsc := { s.dsc with
          c := s.dsc.c - 1,
          last := s.dsc.last.map fun r => { r with
            charged := min 65535 (r.charged + 1), warm := r.warm || decide (s.dsc.c = 0) } } }) ∧
    (∀ due e rest, s.dsc.flowTimer = some due → s.dsc.queue = e :: rest →
      e.state = .activeFlow → e.valve = some .opened →
      let n := min 120 (e.openSeconds + 1)
      let limit := match e.kind with
        | .portion => 120
        | .paddle => s.dsc.paddleMax
      let e' := { e with openSeconds := n }
      let u := { s.taken .flowSecond with
        now := max s.now due,
        dsc := { s.dsc with queue := e' :: rest, flowTimer := some (due + 1000) } }
      (n < limit ∨ e.stopCause ≠ none → exec .flowSecond s = .next u) ∧
      (limit ≤ n → e.stopCause = none →
        exec .flowSecond s = .next (flowStopped u e' .runawayLimit))) ∧
    (∀ due, s.dsc.minuteTimer = some due →
      let wt := s.channel .wt
      let c := min s.dsc.vTank (s.dsc.c + s.dsc.chillRate)
      let after (c : Nat) := { s.taken .recoveryMinute with
        now := max s.now due,
        dsc := { s.dsc with c := c, minuteTimer := some (due + 60000) } }
      (wt.status ≠ .ok → exec .recoveryMinute s = .next (after c)) ∧
      (∀ v, wt.status = .ok → wt.value = some v →
        (v ≤ 40 → exec .recoveryMinute s = .next (after s.dsc.vTank)) ∧
        (40 < v → v < 100 → exec .recoveryMinute s = .next (after c)) ∧
        (100 ≤ v → exec .recoveryMinute s = .next (after 0))))

/-- R117, R118: the paddle. A press starts a paddle dispense only when nothing is in hand; otherwise it
sets the latch and stops a portion. DSC keeps PADDLE as handed, and a completion reads it so: one that a
release brings about never sets the latch (log 47). -/
def Obligations.PaddlePressAndRelease : Prop :=
  ∀ s : State, s.running = true →
    let p := Instr.paddleAssertion
    let r := Instr.paddleRelease
    let latched := { s.taken p with dsc := { s.dsc with latch := true, paddle := true } }
    let released := { s.taken r with dsc := { s.dsc with paddle := false } }
    (s.dsc.queue = [] → s.dsc.claimView = .none → exec p s = .next { s.taken p with
      handovers := (s.taken p).handovers ++ [.claimMade .disp none 0 0],
      dsc := { s.dsc with
        paddle := true, claimView := .waiting,
        queue := [{ tag := 0, kind := .paddle, target := none, chilledOnly := false,
                    state := .activeWait, valve := none, openSeconds := 0, stopCause := none,
                    charged := 0, warm := false }] } }) ∧
    (s.dsc.queue = [] → s.dsc.claimView ≠ .none → exec p s = .next latched) ∧
    (∀ e rest, s.dsc.queue = e :: rest →
      (e.kind = .portion → e.state = .activeWait →
        exec p s = .next (waitStopped latched e .userStop)) ∧
      (e.kind = .portion → e.state = .activeFlow → e.valve = some .opened → e.stopCause = none →
        exec p s = .next (flowStopped latched e .userStop)) ∧
      (e.kind = .paddle ∨ e.state = .queued ∨
          (e.state = .activeFlow ∧ (e.valve = some .closed ∨ e.stopCause ≠ none)) →
        exec p s = .next latched)) ∧
    (s.dsc.latch = true → exec r s = .next (testActivation
      { released with dsc := { released.dsc with latch := false } })) ∧
    (s.dsc.latch = false → s.dsc.queue = [] → exec r s = .next released) ∧
    (∀ e rest, s.dsc.latch = false → s.dsc.queue = e :: rest →
      (e.kind = .paddle → e.state = .activeWait →
        exec r s = .next (waitStopped released e .userStop)) ∧
      (e.kind = .paddle → e.state = .activeFlow → e.valve = some .opened → e.stopCause = none →
        exec r s = .next (flowStopped released e .done)) ∧
      (e.kind = .portion ∨ e.state = .queued ∨
          (e.state = .activeFlow ∧ (e.valve = some .closed ∨ e.stopCause ≠ none)) →
        exec r s = .next released))

/-! ### LDM (Section 7) -/

/-- R128, R130: a grant evaluation sets ON waiting entries that fit, starting each one's output, and
changes no other entry; the ON total stays within the budget. It scans in priority order: a waiting
entry is set ON exactly when its rated power fits beside the entries the evaluation found ON and those of
higher priority it set ON. A return brings the ON total within the budget, lowest priority first, and
stops there: an ON entry stays ON exactly when its rated power fits beside the ON entries of higher
priority, and a table within the budget is left as it is. The priority order is that of TABLE 7-1. -/
def Obligations.EvaluationGrantsWhatFits : Prop :=
  let order : List Load := [.defHtr, .moldHtr, .rakeMtr, .fillTubeHtr, .ductHtr]
  (∀ l : Loads, onTotal l =
    (order.map fun x => if (getLoad l x).state = .on then (getLoad l x).rated else 0).sum) ∧
  ∀ (now budget : Nat) (l : Loads),
    let r := evaluateLoads now budget l
    let b := returnLoads budget l
    let before (x : Load) : Nat := ((order.filter fun y =>
      decide ((getLoad l y).state = .on ∨
        ((getLoad r y).state = .on ∧ order.idxOf y < order.idxOf x))).map
          fun y => (getLoad l y).rated).sum
    let upTo (x : Load) : Nat := ((order.filter fun y =>
      decide ((getLoad l y).state = .on ∧ order.idxOf y ≤ order.idxOf x)).map
        fun y => (getLoad l y).rated).sum
    (onTotal l ≤ budget → onTotal r ≤ budget) ∧
    (∀ x,
      ((getLoad l x).state ≠ .waiting → getLoad r x = getLoad l x) ∧
      ((getLoad l x).state = .waiting → getLoad r x = getLoad l x ∨
        getLoad r x = { getLoad l x with
          state := .on, driven := true,
          period := if (getLoad l x).duty < 100
            then some { start := now, duty := (getLoad l x).duty } else none }) ∧
      ((getLoad l x).state = .waiting →
        ((getLoad r x).state = .on ↔ before x + (getLoad l x).rated ≤ budget)) ∧
      ((getLoad r x).state = .waiting → budget < onTotal r + (getLoad r x).rated)) ∧
    onTotal b ≤ budget ∧
    (∀ x, getLoad b x = getLoad l x ∨ ((getLoad l x).state = .on ∧
      getLoad b x = { getLoad l x with state := .waiting, driven := false, period := none })) ∧
    (∀ x y, (getLoad l x).state = .on → (getLoad b x).state ≠ .on →
      order.idxOf x < order.idxOf y → (getLoad b y).state ≠ .on) ∧
    (∀ x, (getLoad l x).state = .on → ((getLoad b x).state = .on ↔ upTo x ≤ budget)) ∧
    (onTotal l ≤ budget → b = l)

/-- R126, R127, R136: a request and a release. A release in the act that makes it first takes the
requests and duty changes of the same load still in flight, oldest first (log 12); then it hands the not
ON and makes the evaluation, in this order.
R126, R132, R133: a change of duty and the duty period. A request at an ON entry leaves its output as it
is until the duty period or the next grant takes the duty (log 44). MOLD_HTR and RAKE_MTR stay at 100, and
a duty change of DEF_HTR is one of DEF_DUTY (log 35). The hand-overs of the trace heaters are no steps (log 40). -/
def Obligations.LoadRequestsAndDuties : Prop :=
  (∀ (s : State) (x : Load) (duty : Nat), s.running = true →
      let evaluated (l : Loads) : Loads := match s.ldm.monitor with
        | .normal => evaluateLoads s.now s.ldm.budget l
        | .sag => l
      let d := match x with
        | .defHtr => (s.load x).duty
        | .moldHtr | .rakeMtr => 100
        | .fillTubeHtr | .ductHtr => duty
      let e := { s.load x with duty := d }
      let u := s.taken (.loadRequest x duty)
      ((s.load x).state = .off → s.ldm.monitor = .normal → exec (.loadRequest x duty) s =
        .next (loadsSet u (evaluated (setLoad s.ldm.loads x { e with state := .waiting })))) ∧
      ((s.load x).state = .off → s.ldm.monitor = .sag → exec (.loadRequest x duty) s =
        .next (loadsSet u (setLoad s.ldm.loads x { e with state := .shed }))) ∧
      ((s.load x).state ≠ .off → exec (.loadRequest x duty) s =
        .next { u with ldm := { s.ldm with loads := setLoad s.ldm.loads x e } }) ∧
      (∀ c t, s.handovers.find? (requestInFlight x) = some c → exec c s = .next t →
        exec (.loadRelease x) s = exec (.loadRelease x) t) ∧
      (s.handovers.find? (requestInFlight x) = none →
        let v := s.taken (.loadRelease x)
        let released := setLoad s.ldm.loads x
          { s.load x with state := .off, driven := false, period := none }
        ((s.load x).state = .off → exec (.loadRelease x) s = .next v) ∧
        ((s.load x).state = .shed → exec (.loadRelease x) s = .next (loadsSet v released)) ∧
        ((s.load x).state = .waiting ∨ (s.load x).state = .on → exec (.loadRelease x) s =
          .next (loadsSet (loadsSet v released) (evaluated released))))) ∧
  (∀ (s : State) (x : Load) (duty : Nat), s.running = true →
      let e := s.load x
      let after (u : State) (e : LoadEntry) : State :=
        { u with ldm := { s.ldm with loads := setLoad s.ldm.loads x e } }
      let d := if x = .moldHtr ∨ x = .rakeMtr then 100 else duty
      let c := Instr.dutyChange x duty
      (e.state ≠ .on ∨ (e.period = none ∧ 100 ≤ d) ∨ (e.period ≠ none ∧ d < 100) →
        exec c s = .next (after (s.taken c) { e with duty := d })) ∧
      (e.state = .on → e.period = none → d < 100 → exec c s = .next (after (s.taken c)
        { e with duty := d, driven := true, period := some { start := s.now, duty := d } })) ∧
      (e.state = .on → e.period ≠ none → 100 ≤ d → exec c s = .next (after (s.taken c)
        { e with duty := d, driven := true, period := none })) ∧
      (∀ p, e.period = some p →
        let t := Instr.dutyPeriodTimer x
        (e.driven = true → exec t s = .next (after
          { s.taken t with now := max s.now (p.start + p.duty * 100) }
          { e with driven := false })) ∧
        (e.driven = false → exec t s = .next (after
          { s.taken t with now := max s.now (p.start + 10000) }
          { e with
            driven := true,
            period := if e.duty < 100 then some { start := p.start + 10000, duty := e.duty }
              else none }))))

/-- R134 to R137: the rail's moves, sag entry and sag exit. The rail keeps its level also while the part
is held in reset (log 7), and a row given where no level is crossed only sets it (log 25). The hand-overs
of the trace heaters are no steps (log 40). -/
def Obligations.RailMovesAndSag : Prop :=
  ∀ (s : State) (rail : Nat),
    let requested (e : LoadEntry) : Prop := e.state = .on ∨ e.state = .waiting
    let seen (c : Instr) (t : Timer) : State :=
      { s.taken c with ldm := { s.ldm with rail := rail, exitTimer := t } }
    (s.running = false → ∀ c,
      c = .railBelowEntry rail ∨ c = .railAboveExit rail ∨ c = .railFallsBack rail →
      exec c s = .next { s with ldm := { s.ldm with rail := rail } }) ∧
    (s.running = true →
      (s.ldm.monitor = .normal →
        let c := Instr.railBelowEntry rail
        let shed := mapLoads (fun e =>
          if requested e then { e with state := .shed, driven := false, period := none } else e)
            s.ldm.loads
        let n := ([Load.defHtr, .moldHtr, .rakeMtr, .fillTubeHtr, .ductHtr].filter fun x =>
          decide (requested (s.load x))).length
        exec c s = .next { s.taken c with
          handovers := (s.taken c).handovers ++ netHandovers s.ldm.loads shed ++
            [.wpuSagEntry, .saveRequest, .eventTaken (.supplySag n)],
          ldm := { s.ldm with
            rail := rail, loads := shed, monitor := .sag, exitTimer := none,
            sagCount := min 255 (s.ldm.sagCount + 1), lastSag := s.now } }) ∧
      (s.ldm.monitor = .sag →
        exec (.railBelowEntry rail) s = .next (seen (.railBelowEntry rail) none) ∧
        exec (.railFallsBack rail) s = .next (seen (.railFallsBack rail) none) ∧
        exec (.railAboveExit rail) s = .next
          (seen (.railAboveExit rail) (some (s.ldm.exitTimer.getD (s.now + 2000))))) ∧
      (s.ldm.monitor = .normal →
        exec (.railFallsBack rail) s = .next (seen (.railFallsBack rail) s.ldm.exitTimer) ∧
        exec (.railAboveExit rail) s = .next (seen (.railAboveExit rail) s.ldm.exitTimer)) ∧
      (∀ due, s.ldm.exitTimer = some due →
        let c := Instr.exitTimerExpiry
        let t := max s.now due
        let restored := evaluateLoads t s.ldm.budget (mapLoads (fun e =>
          if e.state = .shed then { e with state := .waiting } else e) s.ldm.loads)
        exec c s = .next { s.taken c with
          now := t,
          handovers := (s.taken c).handovers ++ [.wpuSagExit] ++
            netHandovers s.ldm.loads restored ++
            [.eventTaken (.supplyRestored (min 65535 ((t - s.ldm.lastSag) / 1000)))],
          ldm := { s.ldm with loads := restored, monitor := .normal, exitTimer := none } }))

/-! ### RPU (Section 8) -/

/-- R143, R145, R146, R148, R151, R152: an event taken. QUEUE_HIGH is the next event taken, and its own
insertion raises none (log 17). `reported` gives kind number and class in the words of TABLE 8-1 and the
body in those of TABLE 9-7 (R142, R147, R162), and every kind has a body of at most ten bytes. -/
def Obligations.EventsAreTaken : Prop :=
  ∀ (s : State) (e : Event), s.running = true →
    let c := Instr.eventTaken e
    let k := (reported e).kind
    let r := { s.rpu with flags := s.rpu.flags ||| BitVec.ofNat 16 (2 ^ k) }
    let n := r.queue.length + 1
    let fits : Prop := if (reported e).alarm then n ≤ 32 else r.queue.length + r.reserve < 32
    let enabled := s.rpu.enables.getLsbD k
    (reported e).body.length ≤ 10 ∧
    (enabled = false → exec c s = .next { s.taken c with rpu := r }) ∧
    (enabled = true → fits → exec c s = .next { s.taken c with
      handovers := (if n = r.highLevel ∧ k ≠ 14
        then [.eventTaken (.queueHigh n r.alarmDrops r.statusDrops)] else [])
          ++ (s.taken c).handovers,
      rpu := { r with
        queue := r.queue ++ [{ kind := k, age := 0, body := (reported e).body }],
        attn := r.attnEnable && decide (r.attnLevel ≤ n) } }) ∧
    (enabled = true → ¬fits → (reported e).alarm = true → exec c s =
      .next { s.taken c with rpu := { r with alarmDrops := min 255 (r.alarmDrops + 1) } }) ∧
    (enabled = true → ¬fits → (reported e).alarm = false → exec c s =
      .next { s.taken c with rpu := { r with statusDrops := min 255 (r.statusDrops + 1) } })

/-- R144 to R146, R149 to R151: ages, flags, enables, fetches and drop counts. A BAD_PARAM answer to
SET REPORT ENABLES carries the unchanged enables (log 48). -/
def Obligations.ReportRequests : Prop :=
  ∀ s : State, s.running = true →
    let bytes2 (v : KindSet) : List Byte :=
      [BitVec.ofNat 8 v.toNat, BitVec.ofNat 8 (v.toNat / 256)]
    (∀ due, s.rpu.ageTimer = some due → exec .ageSecond s = .next { s.taken .ageSecond with
      now := max s.now due,
      rpu := { s.rpu with
        ageTimer := some (due + 1000),
        queue := s.rpu.queue.map fun r => { r with age := min 65535 (r.age + 1) } } }) ∧
    (∀ kinds : KindSet,
      let c := Instr.clearEvents kinds
      exec c s = .next (answer
        { s.taken c with
          handovers := (s.taken c).handovers
            ++ (if kinds.getLsbD 10 then [.leakLatchClear] else []),
          rpu := { s.rpu with flags := s.rpu.flags &&& ~~~kinds } }
        0x79 .ok (bytes2 (s.rpu.flags &&& ~~~kinds)))) ∧
    (∀ (kinds : KindSet) (attn : Byte),
      let c := Instr.setReportEnables kinds attn
      (1 < attn.toNat → exec c s = .next (answer (s.taken c) 0x7A .badParam
        (bytes2 s.rpu.enables ++ [BitVec.ofNat 8 s.rpu.attnEnable.toNat]))) ∧
      (attn.toNat ≤ 1 → exec c s = .next (answer
        { s.taken c with
          rpu := { s.rpu with
            enables := kinds, attnEnable := decide (attn = 1),
            attn := decide (attn = 1) && decide (s.rpu.attnLevel ≤ s.rpu.queue.length) } }
        0x7A .ok (bytes2 kinds ++ [attn])))) ∧
    (∀ count : Byte,
      let c := Instr.fetchReports count
      let n := max 1 (min 4 count.toNat)
      let oldest := s.rpu.queue.take n
      let left := s.rpu.queue.drop n
      exec c s = .next (answer
        { s.taken c with
          rpu := { s.rpu with
            queue := left,
            attn := s.rpu.attnEnable && decide (s.rpu.attnLevel ≤ left.length) } }
        0x7B (if n = count.toNat then .ok else .clamped)
        ([BitVec.ofNat 8 oldest.length, BitVec.ofNat 8 left.length]
          ++ oldest.flatMap fun r =>
            [BitVec.ofNat 8 r.kind, BitVec.ofNat 8 r.age, BitVec.ofNat 8 (r.age / 256),
              BitVec.ofNat 8 r.body.length] ++ r.body))) ∧
    exec .readReportCounts s = .next (answer
      { s.taken .readReportCounts with rpu := { s.rpu with alarmDrops := 0, statusDrops := 0 } }
      0x7C .ok
      [BitVec.ofNat 8 s.rpu.alarmDrops, BitVec.ofNat 8 s.rpu.statusDrops,
        BitVec.ofNat 8 s.rpu.queue.length, BitVec.ofNat 8 (32 - s.rpu.queue.length)])

/-! ### The Retained Store (Section 10) -/

/-- R166, R167: a save request and the end of a write. A write first erases the check field, and a
request that finds one in hand makes the next one follow it. -/
def Obligations.SavesAreWritten : Prop :=
  ∀ s : State, s.running = true →
    let live : Config.StoreValues :=
      { t := s.fest.t, f := s.fest.f, used := s.wpu.used, capacity := s.wpu.capacity,
        age := s.wpu.age }
    (s.lnk.writing = none → exec .saveRequest s = .next { s.taken .saveRequest with
      lnk := { s.lnk with writing := some live, writeTimer := some (s.now + 50) },
      store := { s.store with check := none } }) ∧
    (s.lnk.writing ≠ none → exec .saveRequest s =
      .next { s.taken .saveRequest with lnk := { s.lnk with savePending := true } }) ∧
    (∀ v, s.lnk.writing = some v →
      (s.lnk.savePending = false → exec .writeEnd s = .next { s.taken .writeEnd with
        lnk := { s.lnk with writing := none, writeTimer := none },
        store := { values := v, check := some (Config.storeCheck v) } }) ∧
      (s.lnk.savePending = true → exec .writeEnd s = .next { s.taken .writeEnd with
        lnk := { s.lnk with
          savePending := false, writing := some live, writeTimer := some (s.now + 50) },
        store := { values := v, check := none } }))
end

