-- ==== Sys2Proof/Laws/Config.lean ====
section
/-! SUPPORT. The fixed quantities of the cycle as numerals, so that simp and omega see them. -/

namespace Sys2Proof.Config

@[simp] theorem vendorCode_eq : vendorCode = 0x2E51 := rfl
@[simp] theorem partCode_eq : partCode = 318 := rfl
@[simp] theorem siliconRevision_eq : siliconRevision = 1 := rfl
@[simp] theorem tempMin_eq : tempMin = -400 := rfl
@[simp] theorem tempMax_eq : tempMax = 600 := rfl
@[simp] theorem tMin_eq : tMin = 40000 := rfl
@[simp] theorem tMax_eq : tMax = 600000 := rfl
@[simp] theorem tDefault_eq : tDefault = 150000 := rfl
@[simp] theorem fMax_eq : fMax = 16777215 := rfl
@[simp] theorem capacityMin_eq : capacityMin = 100000 := rfl
@[simp] theorem capacityMax_eq : capacityMax = 2000000 := rfl
@[simp] theorem capacityDefault_eq : capacityDefault = 750000 := rfl
@[simp] theorem usedMax_eq : usedMax = 9999999 := rfl
@[simp] theorem max8_eq : max8 = 255 := rfl
@[simp] theorem max16_eq : max16 = 65535 := rfl
@[simp] theorem heatMax_eq : heatMax = 2400 := rfl
@[simp] theorem fallbackTime_eq : fallbackTime = 1200 := rfl
@[simp] theorem wallCap_eq : wallCap = 4800 := rfl
@[simp] theorem fanRestartTemp_eq : fanRestartTemp = -50 := rfl
@[simp] theorem harvestColdTemp_eq : harvestColdTemp = -100 := rfl
@[simp] theorem harvestWarmTemp_eq : harvestWarmTemp = 10 := rfl
@[simp] theorem harvestHeatMax_eq : harvestHeatMax = 240 := rfl
@[simp] theorem harvestHeatNotOk_eq : harvestHeatNotOk = 120 := rfl
@[simp] theorem rakeLeaveLimit_eq : rakeLeaveLimit = 3 := rfl
@[simp] theorem rakeLimit_eq : rakeLimit = 20 := rfl
@[simp] theorem fillLimit_eq : fillLimit = 20 := rfl
@[simp] theorem noWaterMinimum_eq : noWaterMinimum = 20 := rfl
@[simp] theorem resumeMinimum_eq : resumeMinimum = 5 := rfl
@[simp] theorem dispenseSlots_eq : dispenseSlots = 4 := rfl
@[simp] theorem portionMin_eq : portionMin = 20 := rfl
@[simp] theorem portionMax_eq : portionMax = 2000 := rfl
@[simp] theorem portionLimit_eq : portionLimit = 120 := rfl
@[simp] theorem tankCold_eq : tankCold = 40 := rfl
@[simp] theorem tankWarm_eq : tankWarm = 100 := rfl
@[simp] theorem railEntry_eq : railEntry = 850 := rfl
@[simp] theorem railExit_eq : railExit = 900 := rfl
@[simp] theorem reportSlots_eq : reportSlots = 32 := rfl
@[simp] theorem fetchMax_eq : fetchMax = 4 := rfl
@[simp] theorem second_eq : second = 1000 := rfl
@[simp] theorem minute_eq : minute = 60000 := rfl
@[simp] theorem noFlowMs_eq : noFlowMs = 5000 := rfl
@[simp] theorem settleMs_eq : settleMs = 1000 := rfl
@[simp] theorem starvationMs_eq : starvationMs = 120000 := rfl
@[simp] theorem recoveryMs_eq : recoveryMs = 480000 := rfl
@[simp] theorem retryHoldMs_eq : retryHoldMs = 1800000 := rfl
@[simp] theorem creditMs_eq : creditMs = 10000 := rfl
@[simp] theorem rakeRetryMs_eq : rakeRetryMs = 60000 := rfl
@[simp] theorem noWaterMs_eq : noWaterMs = 600000 := rfl
@[simp] theorem spacingMs_eq : spacingMs = 2000 := rfl
@[simp] theorem dutyPeriodMs_eq : dutyPeriodMs = 10000 := rfl
@[simp] theorem exitMs_eq : exitMs = 2000 := rfl
@[simp] theorem writeMs_eq : writeMs = 50 := rfl

@[simp] theorem debounceMs_eq (i : SwitchInput) : debounceMs i = if i = .binBeam then 10000 else 50 := by
  cases i <;> rfl

end Sys2Proof.Config
end

