-- ==== Sys2Proof/Laws/State.lean ====
section
/-! SUPPORT. One lemma per field per update of the state record, so that no proof unfolds an update. -/

namespace Sys2Proof.Machine

@[simp] theorem State.withPending_pending (s : State) (x : List Instr) : (s.withPending x).pending = x := rfl
@[simp] theorem State.withPending_handovers (s : State) (x : List Instr) : (s.withPending x).handovers = s.handovers := rfl
@[simp] theorem State.withPending_now (s : State) (x : List Instr) : (s.withPending x).now = s.now := rfl
@[simp] theorem State.withPending_freeCount (s : State) (x : List Instr) : (s.withPending x).freeCount = s.freeCount := rfl
@[simp] theorem State.withPending_resetnLow (s : State) (x : List Instr) : (s.withPending x).resetnLow = s.resetnLow := rfl
@[simp] theorem State.withPending_supplyLow (s : State) (x : List Instr) : (s.withPending x).supplyLow = s.supplyLow := rfl
@[simp] theorem State.withPending_scan (s : State) (x : List Instr) : (s.withPending x).scan = s.scan := rfl
@[simp] theorem State.withPending_wpu (s : State) (x : List Instr) : (s.withPending x).wpu = s.wpu := rfl
@[simp] theorem State.withPending_fest (s : State) (x : List Instr) : (s.withPending x).fest = s.fest := rfl
@[simp] theorem State.withPending_dfc (s : State) (x : List Instr) : (s.withPending x).dfc = s.dfc := rfl
@[simp] theorem State.withPending_imc (s : State) (x : List Instr) : (s.withPending x).imc = s.imc := rfl
@[simp] theorem State.withPending_dsc (s : State) (x : List Instr) : (s.withPending x).dsc = s.dsc := rfl
@[simp] theorem State.withPending_ldm (s : State) (x : List Instr) : (s.withPending x).ldm = s.ldm := rfl
@[simp] theorem State.withPending_rpu (s : State) (x : List Instr) : (s.withPending x).rpu = s.rpu := rfl
@[simp] theorem State.withPending_lnk (s : State) (x : List Instr) : (s.withPending x).lnk = s.lnk := rfl
@[simp] theorem State.withPending_store (s : State) (x : List Instr) : (s.withPending x).store = s.store := rfl

@[simp] theorem State.withHandovers_pending (s : State) (x : List Instr) : (s.withHandovers x).pending = s.pending := rfl
@[simp] theorem State.withHandovers_handovers (s : State) (x : List Instr) : (s.withHandovers x).handovers = x := rfl
@[simp] theorem State.withHandovers_now (s : State) (x : List Instr) : (s.withHandovers x).now = s.now := rfl
@[simp] theorem State.withHandovers_freeCount (s : State) (x : List Instr) : (s.withHandovers x).freeCount = s.freeCount := rfl
@[simp] theorem State.withHandovers_resetnLow (s : State) (x : List Instr) : (s.withHandovers x).resetnLow = s.resetnLow := rfl
@[simp] theorem State.withHandovers_supplyLow (s : State) (x : List Instr) : (s.withHandovers x).supplyLow = s.supplyLow := rfl
@[simp] theorem State.withHandovers_scan (s : State) (x : List Instr) : (s.withHandovers x).scan = s.scan := rfl
@[simp] theorem State.withHandovers_wpu (s : State) (x : List Instr) : (s.withHandovers x).wpu = s.wpu := rfl
@[simp] theorem State.withHandovers_fest (s : State) (x : List Instr) : (s.withHandovers x).fest = s.fest := rfl
@[simp] theorem State.withHandovers_dfc (s : State) (x : List Instr) : (s.withHandovers x).dfc = s.dfc := rfl
@[simp] theorem State.withHandovers_imc (s : State) (x : List Instr) : (s.withHandovers x).imc = s.imc := rfl
@[simp] theorem State.withHandovers_dsc (s : State) (x : List Instr) : (s.withHandovers x).dsc = s.dsc := rfl
@[simp] theorem State.withHandovers_ldm (s : State) (x : List Instr) : (s.withHandovers x).ldm = s.ldm := rfl
@[simp] theorem State.withHandovers_rpu (s : State) (x : List Instr) : (s.withHandovers x).rpu = s.rpu := rfl
@[simp] theorem State.withHandovers_lnk (s : State) (x : List Instr) : (s.withHandovers x).lnk = s.lnk := rfl
@[simp] theorem State.withHandovers_store (s : State) (x : List Instr) : (s.withHandovers x).store = s.store := rfl

@[simp] theorem State.withNow_pending (s : State) (x : Nat) : (s.withNow x).pending = s.pending := rfl
@[simp] theorem State.withNow_handovers (s : State) (x : Nat) : (s.withNow x).handovers = s.handovers := rfl
@[simp] theorem State.withNow_now (s : State) (x : Nat) : (s.withNow x).now = x := rfl
@[simp] theorem State.withNow_freeCount (s : State) (x : Nat) : (s.withNow x).freeCount = s.freeCount := rfl
@[simp] theorem State.withNow_resetnLow (s : State) (x : Nat) : (s.withNow x).resetnLow = s.resetnLow := rfl
@[simp] theorem State.withNow_supplyLow (s : State) (x : Nat) : (s.withNow x).supplyLow = s.supplyLow := rfl
@[simp] theorem State.withNow_scan (s : State) (x : Nat) : (s.withNow x).scan = s.scan := rfl
@[simp] theorem State.withNow_wpu (s : State) (x : Nat) : (s.withNow x).wpu = s.wpu := rfl
@[simp] theorem State.withNow_fest (s : State) (x : Nat) : (s.withNow x).fest = s.fest := rfl
@[simp] theorem State.withNow_dfc (s : State) (x : Nat) : (s.withNow x).dfc = s.dfc := rfl
@[simp] theorem State.withNow_imc (s : State) (x : Nat) : (s.withNow x).imc = s.imc := rfl
@[simp] theorem State.withNow_dsc (s : State) (x : Nat) : (s.withNow x).dsc = s.dsc := rfl
@[simp] theorem State.withNow_ldm (s : State) (x : Nat) : (s.withNow x).ldm = s.ldm := rfl
@[simp] theorem State.withNow_rpu (s : State) (x : Nat) : (s.withNow x).rpu = s.rpu := rfl
@[simp] theorem State.withNow_lnk (s : State) (x : Nat) : (s.withNow x).lnk = s.lnk := rfl
@[simp] theorem State.withNow_store (s : State) (x : Nat) : (s.withNow x).store = s.store := rfl

@[simp] theorem State.withFreeCount_pending (s : State) (x : Nat) : (s.withFreeCount x).pending = s.pending := rfl
@[simp] theorem State.withFreeCount_handovers (s : State) (x : Nat) : (s.withFreeCount x).handovers = s.handovers := rfl
@[simp] theorem State.withFreeCount_now (s : State) (x : Nat) : (s.withFreeCount x).now = s.now := rfl
@[simp] theorem State.withFreeCount_freeCount (s : State) (x : Nat) : (s.withFreeCount x).freeCount = x := rfl
@[simp] theorem State.withFreeCount_resetnLow (s : State) (x : Nat) : (s.withFreeCount x).resetnLow = s.resetnLow := rfl
@[simp] theorem State.withFreeCount_supplyLow (s : State) (x : Nat) : (s.withFreeCount x).supplyLow = s.supplyLow := rfl
@[simp] theorem State.withFreeCount_scan (s : State) (x : Nat) : (s.withFreeCount x).scan = s.scan := rfl
@[simp] theorem State.withFreeCount_wpu (s : State) (x : Nat) : (s.withFreeCount x).wpu = s.wpu := rfl
@[simp] theorem State.withFreeCount_fest (s : State) (x : Nat) : (s.withFreeCount x).fest = s.fest := rfl
@[simp] theorem State.withFreeCount_dfc (s : State) (x : Nat) : (s.withFreeCount x).dfc = s.dfc := rfl
@[simp] theorem State.withFreeCount_imc (s : State) (x : Nat) : (s.withFreeCount x).imc = s.imc := rfl
@[simp] theorem State.withFreeCount_dsc (s : State) (x : Nat) : (s.withFreeCount x).dsc = s.dsc := rfl
@[simp] theorem State.withFreeCount_ldm (s : State) (x : Nat) : (s.withFreeCount x).ldm = s.ldm := rfl
@[simp] theorem State.withFreeCount_rpu (s : State) (x : Nat) : (s.withFreeCount x).rpu = s.rpu := rfl
@[simp] theorem State.withFreeCount_lnk (s : State) (x : Nat) : (s.withFreeCount x).lnk = s.lnk := rfl
@[simp] theorem State.withFreeCount_store (s : State) (x : Nat) : (s.withFreeCount x).store = s.store := rfl

@[simp] theorem State.withResetnLow_pending (s : State) (x : Bool) : (s.withResetnLow x).pending = s.pending := rfl
@[simp] theorem State.withResetnLow_handovers (s : State) (x : Bool) : (s.withResetnLow x).handovers = s.handovers := rfl
@[simp] theorem State.withResetnLow_now (s : State) (x : Bool) : (s.withResetnLow x).now = s.now := rfl
@[simp] theorem State.withResetnLow_freeCount (s : State) (x : Bool) : (s.withResetnLow x).freeCount = s.freeCount := rfl
@[simp] theorem State.withResetnLow_resetnLow (s : State) (x : Bool) : (s.withResetnLow x).resetnLow = x := rfl
@[simp] theorem State.withResetnLow_supplyLow (s : State) (x : Bool) : (s.withResetnLow x).supplyLow = s.supplyLow := rfl
@[simp] theorem State.withResetnLow_scan (s : State) (x : Bool) : (s.withResetnLow x).scan = s.scan := rfl
@[simp] theorem State.withResetnLow_wpu (s : State) (x : Bool) : (s.withResetnLow x).wpu = s.wpu := rfl
@[simp] theorem State.withResetnLow_fest (s : State) (x : Bool) : (s.withResetnLow x).fest = s.fest := rfl
@[simp] theorem State.withResetnLow_dfc (s : State) (x : Bool) : (s.withResetnLow x).dfc = s.dfc := rfl
@[simp] theorem State.withResetnLow_imc (s : State) (x : Bool) : (s.withResetnLow x).imc = s.imc := rfl
@[simp] theorem State.withResetnLow_dsc (s : State) (x : Bool) : (s.withResetnLow x).dsc = s.dsc := rfl
@[simp] theorem State.withResetnLow_ldm (s : State) (x : Bool) : (s.withResetnLow x).ldm = s.ldm := rfl
@[simp] theorem State.withResetnLow_rpu (s : State) (x : Bool) : (s.withResetnLow x).rpu = s.rpu := rfl
@[simp] theorem State.withResetnLow_lnk (s : State) (x : Bool) : (s.withResetnLow x).lnk = s.lnk := rfl
@[simp] theorem State.withResetnLow_store (s : State) (x : Bool) : (s.withResetnLow x).store = s.store := rfl

@[simp] theorem State.withSupplyLow_pending (s : State) (x : Bool) : (s.withSupplyLow x).pending = s.pending := rfl
@[simp] theorem State.withSupplyLow_handovers (s : State) (x : Bool) : (s.withSupplyLow x).handovers = s.handovers := rfl
@[simp] theorem State.withSupplyLow_now (s : State) (x : Bool) : (s.withSupplyLow x).now = s.now := rfl
@[simp] theorem State.withSupplyLow_freeCount (s : State) (x : Bool) : (s.withSupplyLow x).freeCount = s.freeCount := rfl
@[simp] theorem State.withSupplyLow_resetnLow (s : State) (x : Bool) : (s.withSupplyLow x).resetnLow = s.resetnLow := rfl
@[simp] theorem State.withSupplyLow_supplyLow (s : State) (x : Bool) : (s.withSupplyLow x).supplyLow = x := rfl
@[simp] theorem State.withSupplyLow_scan (s : State) (x : Bool) : (s.withSupplyLow x).scan = s.scan := rfl
@[simp] theorem State.withSupplyLow_wpu (s : State) (x : Bool) : (s.withSupplyLow x).wpu = s.wpu := rfl
@[simp] theorem State.withSupplyLow_fest (s : State) (x : Bool) : (s.withSupplyLow x).fest = s.fest := rfl
@[simp] theorem State.withSupplyLow_dfc (s : State) (x : Bool) : (s.withSupplyLow x).dfc = s.dfc := rfl
@[simp] theorem State.withSupplyLow_imc (s : State) (x : Bool) : (s.withSupplyLow x).imc = s.imc := rfl
@[simp] theorem State.withSupplyLow_dsc (s : State) (x : Bool) : (s.withSupplyLow x).dsc = s.dsc := rfl
@[simp] theorem State.withSupplyLow_ldm (s : State) (x : Bool) : (s.withSupplyLow x).ldm = s.ldm := rfl
@[simp] theorem State.withSupplyLow_rpu (s : State) (x : Bool) : (s.withSupplyLow x).rpu = s.rpu := rfl
@[simp] theorem State.withSupplyLow_lnk (s : State) (x : Bool) : (s.withSupplyLow x).lnk = s.lnk := rfl
@[simp] theorem State.withSupplyLow_store (s : State) (x : Bool) : (s.withSupplyLow x).store = s.store := rfl

@[simp] theorem State.withScan_pending (s : State) (x : Scan) : (s.withScan x).pending = s.pending := rfl
@[simp] theorem State.withScan_handovers (s : State) (x : Scan) : (s.withScan x).handovers = s.handovers := rfl
@[simp] theorem State.withScan_now (s : State) (x : Scan) : (s.withScan x).now = s.now := rfl
@[simp] theorem State.withScan_freeCount (s : State) (x : Scan) : (s.withScan x).freeCount = s.freeCount := rfl
@[simp] theorem State.withScan_resetnLow (s : State) (x : Scan) : (s.withScan x).resetnLow = s.resetnLow := rfl
@[simp] theorem State.withScan_supplyLow (s : State) (x : Scan) : (s.withScan x).supplyLow = s.supplyLow := rfl
@[simp] theorem State.withScan_scan (s : State) (x : Scan) : (s.withScan x).scan = x := rfl
@[simp] theorem State.withScan_wpu (s : State) (x : Scan) : (s.withScan x).wpu = s.wpu := rfl
@[simp] theorem State.withScan_fest (s : State) (x : Scan) : (s.withScan x).fest = s.fest := rfl
@[simp] theorem State.withScan_dfc (s : State) (x : Scan) : (s.withScan x).dfc = s.dfc := rfl
@[simp] theorem State.withScan_imc (s : State) (x : Scan) : (s.withScan x).imc = s.imc := rfl
@[simp] theorem State.withScan_dsc (s : State) (x : Scan) : (s.withScan x).dsc = s.dsc := rfl
@[simp] theorem State.withScan_ldm (s : State) (x : Scan) : (s.withScan x).ldm = s.ldm := rfl
@[simp] theorem State.withScan_rpu (s : State) (x : Scan) : (s.withScan x).rpu = s.rpu := rfl
@[simp] theorem State.withScan_lnk (s : State) (x : Scan) : (s.withScan x).lnk = s.lnk := rfl
@[simp] theorem State.withScan_store (s : State) (x : Scan) : (s.withScan x).store = s.store := rfl

@[simp] theorem State.withWpu_pending (s : State) (x : Wpu) : (s.withWpu x).pending = s.pending := rfl
@[simp] theorem State.withWpu_handovers (s : State) (x : Wpu) : (s.withWpu x).handovers = s.handovers := rfl
@[simp] theorem State.withWpu_now (s : State) (x : Wpu) : (s.withWpu x).now = s.now := rfl
@[simp] theorem State.withWpu_freeCount (s : State) (x : Wpu) : (s.withWpu x).freeCount = s.freeCount := rfl
@[simp] theorem State.withWpu_resetnLow (s : State) (x : Wpu) : (s.withWpu x).resetnLow = s.resetnLow := rfl
@[simp] theorem State.withWpu_supplyLow (s : State) (x : Wpu) : (s.withWpu x).supplyLow = s.supplyLow := rfl
@[simp] theorem State.withWpu_scan (s : State) (x : Wpu) : (s.withWpu x).scan = s.scan := rfl
@[simp] theorem State.withWpu_wpu (s : State) (x : Wpu) : (s.withWpu x).wpu = x := rfl
@[simp] theorem State.withWpu_fest (s : State) (x : Wpu) : (s.withWpu x).fest = s.fest := rfl
@[simp] theorem State.withWpu_dfc (s : State) (x : Wpu) : (s.withWpu x).dfc = s.dfc := rfl
@[simp] theorem State.withWpu_imc (s : State) (x : Wpu) : (s.withWpu x).imc = s.imc := rfl
@[simp] theorem State.withWpu_dsc (s : State) (x : Wpu) : (s.withWpu x).dsc = s.dsc := rfl
@[simp] theorem State.withWpu_ldm (s : State) (x : Wpu) : (s.withWpu x).ldm = s.ldm := rfl
@[simp] theorem State.withWpu_rpu (s : State) (x : Wpu) : (s.withWpu x).rpu = s.rpu := rfl
@[simp] theorem State.withWpu_lnk (s : State) (x : Wpu) : (s.withWpu x).lnk = s.lnk := rfl
@[simp] theorem State.withWpu_store (s : State) (x : Wpu) : (s.withWpu x).store = s.store := rfl

@[simp] theorem State.withFest_pending (s : State) (x : Fest) : (s.withFest x).pending = s.pending := rfl
@[simp] theorem State.withFest_handovers (s : State) (x : Fest) : (s.withFest x).handovers = s.handovers := rfl
@[simp] theorem State.withFest_now (s : State) (x : Fest) : (s.withFest x).now = s.now := rfl
@[simp] theorem State.withFest_freeCount (s : State) (x : Fest) : (s.withFest x).freeCount = s.freeCount := rfl
@[simp] theorem State.withFest_resetnLow (s : State) (x : Fest) : (s.withFest x).resetnLow = s.resetnLow := rfl
@[simp] theorem State.withFest_supplyLow (s : State) (x : Fest) : (s.withFest x).supplyLow = s.supplyLow := rfl
@[simp] theorem State.withFest_scan (s : State) (x : Fest) : (s.withFest x).scan = s.scan := rfl
@[simp] theorem State.withFest_wpu (s : State) (x : Fest) : (s.withFest x).wpu = s.wpu := rfl
@[simp] theorem State.withFest_fest (s : State) (x : Fest) : (s.withFest x).fest = x := rfl
@[simp] theorem State.withFest_dfc (s : State) (x : Fest) : (s.withFest x).dfc = s.dfc := rfl
@[simp] theorem State.withFest_imc (s : State) (x : Fest) : (s.withFest x).imc = s.imc := rfl
@[simp] theorem State.withFest_dsc (s : State) (x : Fest) : (s.withFest x).dsc = s.dsc := rfl
@[simp] theorem State.withFest_ldm (s : State) (x : Fest) : (s.withFest x).ldm = s.ldm := rfl
@[simp] theorem State.withFest_rpu (s : State) (x : Fest) : (s.withFest x).rpu = s.rpu := rfl
@[simp] theorem State.withFest_lnk (s : State) (x : Fest) : (s.withFest x).lnk = s.lnk := rfl
@[simp] theorem State.withFest_store (s : State) (x : Fest) : (s.withFest x).store = s.store := rfl

@[simp] theorem State.withDfc_pending (s : State) (x : Dfc) : (s.withDfc x).pending = s.pending := rfl
@[simp] theorem State.withDfc_handovers (s : State) (x : Dfc) : (s.withDfc x).handovers = s.handovers := rfl
@[simp] theorem State.withDfc_now (s : State) (x : Dfc) : (s.withDfc x).now = s.now := rfl
@[simp] theorem State.withDfc_freeCount (s : State) (x : Dfc) : (s.withDfc x).freeCount = s.freeCount := rfl
@[simp] theorem State.withDfc_resetnLow (s : State) (x : Dfc) : (s.withDfc x).resetnLow = s.resetnLow := rfl
@[simp] theorem State.withDfc_supplyLow (s : State) (x : Dfc) : (s.withDfc x).supplyLow = s.supplyLow := rfl
@[simp] theorem State.withDfc_scan (s : State) (x : Dfc) : (s.withDfc x).scan = s.scan := rfl
@[simp] theorem State.withDfc_wpu (s : State) (x : Dfc) : (s.withDfc x).wpu = s.wpu := rfl
@[simp] theorem State.withDfc_fest (s : State) (x : Dfc) : (s.withDfc x).fest = s.fest := rfl
@[simp] theorem State.withDfc_dfc (s : State) (x : Dfc) : (s.withDfc x).dfc = x := rfl
@[simp] theorem State.withDfc_imc (s : State) (x : Dfc) : (s.withDfc x).imc = s.imc := rfl
@[simp] theorem State.withDfc_dsc (s : State) (x : Dfc) : (s.withDfc x).dsc = s.dsc := rfl
@[simp] theorem State.withDfc_ldm (s : State) (x : Dfc) : (s.withDfc x).ldm = s.ldm := rfl
@[simp] theorem State.withDfc_rpu (s : State) (x : Dfc) : (s.withDfc x).rpu = s.rpu := rfl
@[simp] theorem State.withDfc_lnk (s : State) (x : Dfc) : (s.withDfc x).lnk = s.lnk := rfl
@[simp] theorem State.withDfc_store (s : State) (x : Dfc) : (s.withDfc x).store = s.store := rfl

@[simp] theorem State.withImc_pending (s : State) (x : Imc) : (s.withImc x).pending = s.pending := rfl
@[simp] theorem State.withImc_handovers (s : State) (x : Imc) : (s.withImc x).handovers = s.handovers := rfl
@[simp] theorem State.withImc_now (s : State) (x : Imc) : (s.withImc x).now = s.now := rfl
@[simp] theorem State.withImc_freeCount (s : State) (x : Imc) : (s.withImc x).freeCount = s.freeCount := rfl
@[simp] theorem State.withImc_resetnLow (s : State) (x : Imc) : (s.withImc x).resetnLow = s.resetnLow := rfl
@[simp] theorem State.withImc_supplyLow (s : State) (x : Imc) : (s.withImc x).supplyLow = s.supplyLow := rfl
@[simp] theorem State.withImc_scan (s : State) (x : Imc) : (s.withImc x).scan = s.scan := rfl
@[simp] theorem State.withImc_wpu (s : State) (x : Imc) : (s.withImc x).wpu = s.wpu := rfl
@[simp] theorem State.withImc_fest (s : State) (x : Imc) : (s.withImc x).fest = s.fest := rfl
@[simp] theorem State.withImc_dfc (s : State) (x : Imc) : (s.withImc x).dfc = s.dfc := rfl
@[simp] theorem State.withImc_imc (s : State) (x : Imc) : (s.withImc x).imc = x := rfl
@[simp] theorem State.withImc_dsc (s : State) (x : Imc) : (s.withImc x).dsc = s.dsc := rfl
@[simp] theorem State.withImc_ldm (s : State) (x : Imc) : (s.withImc x).ldm = s.ldm := rfl
@[simp] theorem State.withImc_rpu (s : State) (x : Imc) : (s.withImc x).rpu = s.rpu := rfl
@[simp] theorem State.withImc_lnk (s : State) (x : Imc) : (s.withImc x).lnk = s.lnk := rfl
@[simp] theorem State.withImc_store (s : State) (x : Imc) : (s.withImc x).store = s.store := rfl

@[simp] theorem State.withDsc_pending (s : State) (x : Dsc) : (s.withDsc x).pending = s.pending := rfl
@[simp] theorem State.withDsc_handovers (s : State) (x : Dsc) : (s.withDsc x).handovers = s.handovers := rfl
@[simp] theorem State.withDsc_now (s : State) (x : Dsc) : (s.withDsc x).now = s.now := rfl
@[simp] theorem State.withDsc_freeCount (s : State) (x : Dsc) : (s.withDsc x).freeCount = s.freeCount := rfl
@[simp] theorem State.withDsc_resetnLow (s : State) (x : Dsc) : (s.withDsc x).resetnLow = s.resetnLow := rfl
@[simp] theorem State.withDsc_supplyLow (s : State) (x : Dsc) : (s.withDsc x).supplyLow = s.supplyLow := rfl
@[simp] theorem State.withDsc_scan (s : State) (x : Dsc) : (s.withDsc x).scan = s.scan := rfl
@[simp] theorem State.withDsc_wpu (s : State) (x : Dsc) : (s.withDsc x).wpu = s.wpu := rfl
@[simp] theorem State.withDsc_fest (s : State) (x : Dsc) : (s.withDsc x).fest = s.fest := rfl
@[simp] theorem State.withDsc_dfc (s : State) (x : Dsc) : (s.withDsc x).dfc = s.dfc := rfl
@[simp] theorem State.withDsc_imc (s : State) (x : Dsc) : (s.withDsc x).imc = s.imc := rfl
@[simp] theorem State.withDsc_dsc (s : State) (x : Dsc) : (s.withDsc x).dsc = x := rfl
@[simp] theorem State.withDsc_ldm (s : State) (x : Dsc) : (s.withDsc x).ldm = s.ldm := rfl
@[simp] theorem State.withDsc_rpu (s : State) (x : Dsc) : (s.withDsc x).rpu = s.rpu := rfl
@[simp] theorem State.withDsc_lnk (s : State) (x : Dsc) : (s.withDsc x).lnk = s.lnk := rfl
@[simp] theorem State.withDsc_store (s : State) (x : Dsc) : (s.withDsc x).store = s.store := rfl

@[simp] theorem State.withLdm_pending (s : State) (x : Ldm) : (s.withLdm x).pending = s.pending := rfl
@[simp] theorem State.withLdm_handovers (s : State) (x : Ldm) : (s.withLdm x).handovers = s.handovers := rfl
@[simp] theorem State.withLdm_now (s : State) (x : Ldm) : (s.withLdm x).now = s.now := rfl
@[simp] theorem State.withLdm_freeCount (s : State) (x : Ldm) : (s.withLdm x).freeCount = s.freeCount := rfl
@[simp] theorem State.withLdm_resetnLow (s : State) (x : Ldm) : (s.withLdm x).resetnLow = s.resetnLow := rfl
@[simp] theorem State.withLdm_supplyLow (s : State) (x : Ldm) : (s.withLdm x).supplyLow = s.supplyLow := rfl
@[simp] theorem State.withLdm_scan (s : State) (x : Ldm) : (s.withLdm x).scan = s.scan := rfl
@[simp] theorem State.withLdm_wpu (s : State) (x : Ldm) : (s.withLdm x).wpu = s.wpu := rfl
@[simp] theorem State.withLdm_fest (s : State) (x : Ldm) : (s.withLdm x).fest = s.fest := rfl
@[simp] theorem State.withLdm_dfc (s : State) (x : Ldm) : (s.withLdm x).dfc = s.dfc := rfl
@[simp] theorem State.withLdm_imc (s : State) (x : Ldm) : (s.withLdm x).imc = s.imc := rfl
@[simp] theorem State.withLdm_dsc (s : State) (x : Ldm) : (s.withLdm x).dsc = s.dsc := rfl
@[simp] theorem State.withLdm_ldm (s : State) (x : Ldm) : (s.withLdm x).ldm = x := rfl
@[simp] theorem State.withLdm_rpu (s : State) (x : Ldm) : (s.withLdm x).rpu = s.rpu := rfl
@[simp] theorem State.withLdm_lnk (s : State) (x : Ldm) : (s.withLdm x).lnk = s.lnk := rfl
@[simp] theorem State.withLdm_store (s : State) (x : Ldm) : (s.withLdm x).store = s.store := rfl

@[simp] theorem State.withRpu_pending (s : State) (x : Rpu) : (s.withRpu x).pending = s.pending := rfl
@[simp] theorem State.withRpu_handovers (s : State) (x : Rpu) : (s.withRpu x).handovers = s.handovers := rfl
@[simp] theorem State.withRpu_now (s : State) (x : Rpu) : (s.withRpu x).now = s.now := rfl
@[simp] theorem State.withRpu_freeCount (s : State) (x : Rpu) : (s.withRpu x).freeCount = s.freeCount := rfl
@[simp] theorem State.withRpu_resetnLow (s : State) (x : Rpu) : (s.withRpu x).resetnLow = s.resetnLow := rfl
@[simp] theorem State.withRpu_supplyLow (s : State) (x : Rpu) : (s.withRpu x).supplyLow = s.supplyLow := rfl
@[simp] theorem State.withRpu_scan (s : State) (x : Rpu) : (s.withRpu x).scan = s.scan := rfl
@[simp] theorem State.withRpu_wpu (s : State) (x : Rpu) : (s.withRpu x).wpu = s.wpu := rfl
@[simp] theorem State.withRpu_fest (s : State) (x : Rpu) : (s.withRpu x).fest = s.fest := rfl
@[simp] theorem State.withRpu_dfc (s : State) (x : Rpu) : (s.withRpu x).dfc = s.dfc := rfl
@[simp] theorem State.withRpu_imc (s : State) (x : Rpu) : (s.withRpu x).imc = s.imc := rfl
@[simp] theorem State.withRpu_dsc (s : State) (x : Rpu) : (s.withRpu x).dsc = s.dsc := rfl
@[simp] theorem State.withRpu_ldm (s : State) (x : Rpu) : (s.withRpu x).ldm = s.ldm := rfl
@[simp] theorem State.withRpu_rpu (s : State) (x : Rpu) : (s.withRpu x).rpu = x := rfl
@[simp] theorem State.withRpu_lnk (s : State) (x : Rpu) : (s.withRpu x).lnk = s.lnk := rfl
@[simp] theorem State.withRpu_store (s : State) (x : Rpu) : (s.withRpu x).store = s.store := rfl

@[simp] theorem State.withLnk_pending (s : State) (x : Lnk) : (s.withLnk x).pending = s.pending := rfl
@[simp] theorem State.withLnk_handovers (s : State) (x : Lnk) : (s.withLnk x).handovers = s.handovers := rfl
@[simp] theorem State.withLnk_now (s : State) (x : Lnk) : (s.withLnk x).now = s.now := rfl
@[simp] theorem State.withLnk_freeCount (s : State) (x : Lnk) : (s.withLnk x).freeCount = s.freeCount := rfl
@[simp] theorem State.withLnk_resetnLow (s : State) (x : Lnk) : (s.withLnk x).resetnLow = s.resetnLow := rfl
@[simp] theorem State.withLnk_supplyLow (s : State) (x : Lnk) : (s.withLnk x).supplyLow = s.supplyLow := rfl
@[simp] theorem State.withLnk_scan (s : State) (x : Lnk) : (s.withLnk x).scan = s.scan := rfl
@[simp] theorem State.withLnk_wpu (s : State) (x : Lnk) : (s.withLnk x).wpu = s.wpu := rfl
@[simp] theorem State.withLnk_fest (s : State) (x : Lnk) : (s.withLnk x).fest = s.fest := rfl
@[simp] theorem State.withLnk_dfc (s : State) (x : Lnk) : (s.withLnk x).dfc = s.dfc := rfl
@[simp] theorem State.withLnk_imc (s : State) (x : Lnk) : (s.withLnk x).imc = s.imc := rfl
@[simp] theorem State.withLnk_dsc (s : State) (x : Lnk) : (s.withLnk x).dsc = s.dsc := rfl
@[simp] theorem State.withLnk_ldm (s : State) (x : Lnk) : (s.withLnk x).ldm = s.ldm := rfl
@[simp] theorem State.withLnk_rpu (s : State) (x : Lnk) : (s.withLnk x).rpu = s.rpu := rfl
@[simp] theorem State.withLnk_lnk (s : State) (x : Lnk) : (s.withLnk x).lnk = x := rfl
@[simp] theorem State.withLnk_store (s : State) (x : Lnk) : (s.withLnk x).store = s.store := rfl

@[simp] theorem State.withStore_pending (s : State) (x : Store) : (s.withStore x).pending = s.pending := rfl
@[simp] theorem State.withStore_handovers (s : State) (x : Store) : (s.withStore x).handovers = s.handovers := rfl
@[simp] theorem State.withStore_now (s : State) (x : Store) : (s.withStore x).now = s.now := rfl
@[simp] theorem State.withStore_freeCount (s : State) (x : Store) : (s.withStore x).freeCount = s.freeCount := rfl
@[simp] theorem State.withStore_resetnLow (s : State) (x : Store) : (s.withStore x).resetnLow = s.resetnLow := rfl
@[simp] theorem State.withStore_supplyLow (s : State) (x : Store) : (s.withStore x).supplyLow = s.supplyLow := rfl
@[simp] theorem State.withStore_scan (s : State) (x : Store) : (s.withStore x).scan = s.scan := rfl
@[simp] theorem State.withStore_wpu (s : State) (x : Store) : (s.withStore x).wpu = s.wpu := rfl
@[simp] theorem State.withStore_fest (s : State) (x : Store) : (s.withStore x).fest = s.fest := rfl
@[simp] theorem State.withStore_dfc (s : State) (x : Store) : (s.withStore x).dfc = s.dfc := rfl
@[simp] theorem State.withStore_imc (s : State) (x : Store) : (s.withStore x).imc = s.imc := rfl
@[simp] theorem State.withStore_dsc (s : State) (x : Store) : (s.withStore x).dsc = s.dsc := rfl
@[simp] theorem State.withStore_ldm (s : State) (x : Store) : (s.withStore x).ldm = s.ldm := rfl
@[simp] theorem State.withStore_rpu (s : State) (x : Store) : (s.withStore x).rpu = s.rpu := rfl
@[simp] theorem State.withStore_lnk (s : State) (x : Store) : (s.withStore x).lnk = s.lnk := rfl
@[simp] theorem State.withStore_store (s : State) (x : Store) : (s.withStore x).store = x := rfl

@[simp] theorem State.handover_pending (s : State) (c : Instr) : (s.handover c).pending = s.pending := rfl
@[simp] theorem State.handover_now (s : State) (c : Instr) : (s.handover c).now = s.now := rfl
@[simp] theorem State.handover_freeCount (s : State) (c : Instr) : (s.handover c).freeCount = s.freeCount := rfl
@[simp] theorem State.handover_resetnLow (s : State) (c : Instr) : (s.handover c).resetnLow = s.resetnLow := rfl
@[simp] theorem State.handover_supplyLow (s : State) (c : Instr) : (s.handover c).supplyLow = s.supplyLow := rfl
@[simp] theorem State.handover_scan (s : State) (c : Instr) : (s.handover c).scan = s.scan := rfl
@[simp] theorem State.handover_wpu (s : State) (c : Instr) : (s.handover c).wpu = s.wpu := rfl
@[simp] theorem State.handover_fest (s : State) (c : Instr) : (s.handover c).fest = s.fest := rfl
@[simp] theorem State.handover_dfc (s : State) (c : Instr) : (s.handover c).dfc = s.dfc := rfl
@[simp] theorem State.handover_imc (s : State) (c : Instr) : (s.handover c).imc = s.imc := rfl
@[simp] theorem State.handover_dsc (s : State) (c : Instr) : (s.handover c).dsc = s.dsc := rfl
@[simp] theorem State.handover_ldm (s : State) (c : Instr) : (s.handover c).ldm = s.ldm := rfl
@[simp] theorem State.handover_rpu (s : State) (c : Instr) : (s.handover c).rpu = s.rpu := rfl
@[simp] theorem State.handover_lnk (s : State) (c : Instr) : (s.handover c).lnk = s.lnk := rfl
@[simp] theorem State.handover_store (s : State) (c : Instr) : (s.handover c).store = s.store := rfl

@[simp] theorem State.raise_pending (s : State) (e : Event) : (s.raise e).pending = s.pending := rfl
@[simp] theorem State.raise_now (s : State) (e : Event) : (s.raise e).now = s.now := rfl
@[simp] theorem State.raise_freeCount (s : State) (e : Event) : (s.raise e).freeCount = s.freeCount := rfl
@[simp] theorem State.raise_resetnLow (s : State) (e : Event) : (s.raise e).resetnLow = s.resetnLow := rfl
@[simp] theorem State.raise_supplyLow (s : State) (e : Event) : (s.raise e).supplyLow = s.supplyLow := rfl
@[simp] theorem State.raise_scan (s : State) (e : Event) : (s.raise e).scan = s.scan := rfl
@[simp] theorem State.raise_wpu (s : State) (e : Event) : (s.raise e).wpu = s.wpu := rfl
@[simp] theorem State.raise_fest (s : State) (e : Event) : (s.raise e).fest = s.fest := rfl
@[simp] theorem State.raise_dfc (s : State) (e : Event) : (s.raise e).dfc = s.dfc := rfl
@[simp] theorem State.raise_imc (s : State) (e : Event) : (s.raise e).imc = s.imc := rfl
@[simp] theorem State.raise_dsc (s : State) (e : Event) : (s.raise e).dsc = s.dsc := rfl
@[simp] theorem State.raise_ldm (s : State) (e : Event) : (s.raise e).ldm = s.ldm := rfl
@[simp] theorem State.raise_rpu (s : State) (e : Event) : (s.raise e).rpu = s.rpu := rfl
@[simp] theorem State.raise_lnk (s : State) (e : Event) : (s.raise e).lnk = s.lnk := rfl
@[simp] theorem State.raise_store (s : State) (e : Event) : (s.raise e).store = s.store := rfl

@[simp] theorem State.taken_pending (s : State) (c : Instr) : (s.taken c).pending = s.pending := rfl
@[simp] theorem State.taken_now (s : State) (c : Instr) : (s.taken c).now = s.now := rfl
@[simp] theorem State.taken_freeCount (s : State) (c : Instr) : (s.taken c).freeCount = s.freeCount := rfl
@[simp] theorem State.taken_resetnLow (s : State) (c : Instr) : (s.taken c).resetnLow = s.resetnLow := rfl
@[simp] theorem State.taken_supplyLow (s : State) (c : Instr) : (s.taken c).supplyLow = s.supplyLow := rfl
@[simp] theorem State.taken_scan (s : State) (c : Instr) : (s.taken c).scan = s.scan := rfl
@[simp] theorem State.taken_wpu (s : State) (c : Instr) : (s.taken c).wpu = s.wpu := rfl
@[simp] theorem State.taken_fest (s : State) (c : Instr) : (s.taken c).fest = s.fest := rfl
@[simp] theorem State.taken_dfc (s : State) (c : Instr) : (s.taken c).dfc = s.dfc := rfl
@[simp] theorem State.taken_imc (s : State) (c : Instr) : (s.taken c).imc = s.imc := rfl
@[simp] theorem State.taken_dsc (s : State) (c : Instr) : (s.taken c).dsc = s.dsc := rfl
@[simp] theorem State.taken_ldm (s : State) (c : Instr) : (s.taken c).ldm = s.ldm := rfl
@[simp] theorem State.taken_rpu (s : State) (c : Instr) : (s.taken c).rpu = s.rpu := rfl
@[simp] theorem State.taken_lnk (s : State) (c : Instr) : (s.taken c).lnk = s.lnk := rfl
@[simp] theorem State.taken_store (s : State) (c : Instr) : (s.taken c).store = s.store := rfl

@[simp] theorem State.handover_handovers (s : State) (c : Instr) :
    (s.handover c).handovers = s.handovers ++ [c] := rfl
@[simp] theorem State.raise_handovers (s : State) (e : Event) :
    (s.raise e).handovers = s.handovers ++ [.eventTaken e] := rfl
@[simp] theorem State.taken_handovers (s : State) (c : Instr) :
    (s.taken c).handovers = s.handovers.erase c := rfl
@[simp] theorem State.drawFree_pending (s : State) : s.drawFree.pending = s.pending := rfl
@[simp] theorem State.drawFree_handovers (s : State) : s.drawFree.handovers = s.handovers := rfl
@[simp] theorem State.drawFree_now (s : State) : s.drawFree.now = s.now := rfl
@[simp] theorem State.drawFree_resetnLow (s : State) : s.drawFree.resetnLow = s.resetnLow := rfl
@[simp] theorem State.drawFree_supplyLow (s : State) : s.drawFree.supplyLow = s.supplyLow := rfl
@[simp] theorem State.drawFree_scan (s : State) : s.drawFree.scan = s.scan := rfl
@[simp] theorem State.drawFree_wpu (s : State) : s.drawFree.wpu = s.wpu := rfl
@[simp] theorem State.drawFree_fest (s : State) : s.drawFree.fest = s.fest := rfl
@[simp] theorem State.drawFree_dfc (s : State) : s.drawFree.dfc = s.dfc := rfl
@[simp] theorem State.drawFree_imc (s : State) : s.drawFree.imc = s.imc := rfl
@[simp] theorem State.drawFree_dsc (s : State) : s.drawFree.dsc = s.dsc := rfl
@[simp] theorem State.drawFree_ldm (s : State) : s.drawFree.ldm = s.ldm := rfl
@[simp] theorem State.drawFree_rpu (s : State) : s.drawFree.rpu = s.rpu := rfl
@[simp] theorem State.drawFree_lnk (s : State) : s.drawFree.lnk = s.lnk := rfl
@[simp] theorem State.drawFree_store (s : State) : s.drawFree.store = s.store := rfl
@[simp] theorem State.drawFree_freeCount (s : State) : s.drawFree.freeCount = s.freeCount + 1 := rfl
@[simp] theorem answer_pending (s : State) (k : Byte) (r : Result) (p : List Byte) :
    (answer s k r p).pending = s.pending := rfl
@[simp] theorem answer_handovers (s : State) (k : Byte) (r : Result) (p : List Byte) :
    (answer s k r p).handovers = s.handovers := rfl
@[simp] theorem answer_now (s : State) (k : Byte) (r : Result) (p : List Byte) :
    (answer s k r p).now = s.now := rfl
@[simp] theorem answer_freeCount (s : State) (k : Byte) (r : Result) (p : List Byte) :
    (answer s k r p).freeCount = s.freeCount := rfl
@[simp] theorem answer_resetnLow (s : State) (k : Byte) (r : Result) (p : List Byte) :
    (answer s k r p).resetnLow = s.resetnLow := rfl
@[simp] theorem answer_supplyLow (s : State) (k : Byte) (r : Result) (p : List Byte) :
    (answer s k r p).supplyLow = s.supplyLow := rfl
@[simp] theorem answer_scan (s : State) (k : Byte) (r : Result) (p : List Byte) :
    (answer s k r p).scan = s.scan := rfl
@[simp] theorem answer_wpu (s : State) (k : Byte) (r : Result) (p : List Byte) :
    (answer s k r p).wpu = s.wpu := rfl
@[simp] theorem answer_fest (s : State) (k : Byte) (r : Result) (p : List Byte) :
    (answer s k r p).fest = s.fest := rfl
@[simp] theorem answer_dfc (s : State) (k : Byte) (r : Result) (p : List Byte) :
    (answer s k r p).dfc = s.dfc := rfl
@[simp] theorem answer_imc (s : State) (k : Byte) (r : Result) (p : List Byte) :
    (answer s k r p).imc = s.imc := rfl
@[simp] theorem answer_dsc (s : State) (k : Byte) (r : Result) (p : List Byte) :
    (answer s k r p).dsc = s.dsc := rfl
@[simp] theorem answer_ldm (s : State) (k : Byte) (r : Result) (p : List Byte) :
    (answer s k r p).ldm = s.ldm := rfl
@[simp] theorem answer_rpu (s : State) (k : Byte) (r : Result) (p : List Byte) :
    (answer s k r p).rpu = s.rpu := rfl
@[simp] theorem answer_store (s : State) (k : Byte) (r : Result) (p : List Byte) :
    (answer s k r p).store = s.store := rfl

@[simp] theorem State.running_withNow (s : State) (t : Nat) : (s.withNow t).running = s.running := rfl
@[simp] theorem State.running_taken (s : State) (c : Instr) : (s.taken c).running = s.running := rfl

/-- A command taken while the part is out of reset has its effect. -/
theorem perform_of_running {c : Instr} {s : State} {f : State → State} (h : s.running = true) :
    perform c s f = .next (f (s.taken c)) := by simp [perform, h]

/-- A command that finds the part held in reset changes nothing. -/
theorem perform_of_held {c : Instr} {s : State} {f : State → State} (h : s.running = false) :
    perform c s f = .next s := by simp [perform, h]

/-- All that taking a command can do. -/
theorem perform_cases {c : Instr} {s t : State} {f : State → State} (h : perform c s f = .next t) :
    (s.running = true ∧ t = f (s.taken c)) ∨ (s.running = false ∧ t = s) := by
  unfold perform at h
  injection h with h
  cases hr : s.running <;> simp [hr] at h
  · exact .inr ⟨rfl, h.symm⟩
  · exact .inl ⟨rfl, h.symm⟩

/-- The expiry of a stopped timer does nothing. -/
@[simp] theorem onExpiry_none (s : State) (f : Nat → State → State) : onExpiry none s f = s := rfl

/-- The expiry of a running timer has its effect, at the due time or later. -/
@[simp] theorem onExpiry_some (due : Nat) (s : State) (f : Nat → State → State) :
    onExpiry (some due) s f = f due (s.withNow (max s.now due)) := rfl

end Sys2Proof.Machine
end

