-- ==== Sys2Proof/Laws/Frames.lean ====
section
/-! SUPPORT. For each operation of the blocks, the components of the state it leaves unchanged, as one
lemma that simp reads field by field. A hand-over changes `handovers`, which no lemma here names. -/

namespace Sys2Proof.Machine

open Sys2Proof

/-! ### SCAN -/

@[simp] theorem State.withChannel_frame (s : State) (ch : Channel) (r : ChannelRec) :
    (State.withChannel s ch r).pending = s.pending ∧ (State.withChannel s ch r).now = s.now ∧
      (State.withChannel s ch r).freeCount = s.freeCount ∧
      (State.withChannel s ch r).resetnLow = s.resetnLow ∧
      (State.withChannel s ch r).supplyLow = s.supplyLow ∧
      (State.withChannel s ch r).wpu = s.wpu ∧ (State.withChannel s ch r).fest = s.fest ∧
      (State.withChannel s ch r).dfc = s.dfc ∧ (State.withChannel s ch r).imc = s.imc ∧
      (State.withChannel s ch r).dsc = s.dsc ∧ (State.withChannel s ch r).ldm = s.ldm ∧
      (State.withChannel s ch r).rpu = s.rpu ∧ (State.withChannel s ch r).lnk = s.lnk ∧
      (State.withChannel s ch r).store = s.store := by
  simp [State.withChannel]

@[simp] theorem State.withSwitch_frame (s : State) (i : SwitchInput) (r : SwitchRec) :
    (State.withSwitch s i r).pending = s.pending ∧ (State.withSwitch s i r).now = s.now ∧
      (State.withSwitch s i r).freeCount = s.freeCount ∧
      (State.withSwitch s i r).resetnLow = s.resetnLow ∧
      (State.withSwitch s i r).supplyLow = s.supplyLow ∧ (State.withSwitch s i r).wpu = s.wpu ∧
      (State.withSwitch s i r).fest = s.fest ∧ (State.withSwitch s i r).dfc = s.dfc ∧
      (State.withSwitch s i r).imc = s.imc ∧ (State.withSwitch s i r).dsc = s.dsc ∧
      (State.withSwitch s i r).ldm = s.ldm ∧ (State.withSwitch s i r).rpu = s.rpu ∧
      (State.withSwitch s i r).lnk = s.lnk ∧ (State.withSwitch s i r).store = s.store := by
  simp [State.withSwitch]

@[simp] theorem handChannel_frame (s : State) (ch : Channel) (r : ChannelRec) :
    (handChannel s ch r).pending = s.pending ∧ (handChannel s ch r).now = s.now ∧
      (handChannel s ch r).freeCount = s.freeCount ∧
      (handChannel s ch r).resetnLow = s.resetnLow ∧
      (handChannel s ch r).supplyLow = s.supplyLow ∧ (handChannel s ch r).scan = s.scan ∧
      (handChannel s ch r).wpu = s.wpu ∧ (handChannel s ch r).fest = s.fest ∧
      (handChannel s ch r).dfc = s.dfc ∧ (handChannel s ch r).imc = s.imc ∧
      (handChannel s ch r).dsc = s.dsc ∧ (handChannel s ch r).ldm = s.ldm ∧
      (handChannel s ch r).rpu = s.rpu ∧ (handChannel s ch r).lnk = s.lnk ∧
      (handChannel s ch r).store = s.store := by
  unfold handChannel
  repeat' split
  all_goals simp

@[simp] theorem takeSample_frame (s : State) (ch : Channel) (x : Temp) (due : Nat) :
    (takeSample s ch x due).pending = s.pending ∧ (takeSample s ch x due).now = s.now ∧
      (takeSample s ch x due).freeCount = s.freeCount ∧
      (takeSample s ch x due).resetnLow = s.resetnLow ∧
      (takeSample s ch x due).supplyLow = s.supplyLow ∧ (takeSample s ch x due).wpu = s.wpu ∧
      (takeSample s ch x due).fest = s.fest ∧ (takeSample s ch x due).dfc = s.dfc ∧
      (takeSample s ch x due).imc = s.imc ∧ (takeSample s ch x due).dsc = s.dsc ∧
      (takeSample s ch x due).ldm = s.ldm ∧ (takeSample s ch x due).rpu = s.rpu ∧
      (takeSample s ch x due).lnk = s.lnk ∧ (takeSample s ch x due).store = s.store := by
  unfold takeSample
  dsimp only
  repeat' split
  all_goals simp

@[simp] theorem handSwitch_frame (s : State) (i : SwitchInput) (b : Bool) :
    (handSwitch s i b).pending = s.pending ∧ (handSwitch s i b).now = s.now ∧
      (handSwitch s i b).freeCount = s.freeCount ∧ (handSwitch s i b).resetnLow = s.resetnLow ∧
      (handSwitch s i b).supplyLow = s.supplyLow ∧ (handSwitch s i b).scan = s.scan ∧
      (handSwitch s i b).wpu = s.wpu ∧ (handSwitch s i b).fest = s.fest ∧
      (handSwitch s i b).dfc = s.dfc ∧ (handSwitch s i b).imc = s.imc ∧
      (handSwitch s i b).dsc = s.dsc ∧ (handSwitch s i b).ldm = s.ldm ∧
      (handSwitch s i b).rpu = s.rpu ∧ (handSwitch s i b).lnk = s.lnk ∧
      (handSwitch s i b).store = s.store := by
  unfold handSwitch
  repeat' split
  all_goals simp

@[simp] theorem changeSwitch_frame (s : State) (i : SwitchInput) :
    (changeSwitch s i).pending = s.pending ∧ (changeSwitch s i).now = s.now ∧
      (changeSwitch s i).freeCount = s.freeCount ∧ (changeSwitch s i).resetnLow = s.resetnLow ∧
      (changeSwitch s i).supplyLow = s.supplyLow ∧ (changeSwitch s i).wpu = s.wpu ∧
      (changeSwitch s i).fest = s.fest ∧ (changeSwitch s i).dfc = s.dfc ∧
      (changeSwitch s i).imc = s.imc ∧ (changeSwitch s i).dsc = s.dsc ∧
      (changeSwitch s i).ldm = s.ldm ∧ (changeSwitch s i).rpu = s.rpu ∧
      (changeSwitch s i).lnk = s.lnk ∧ (changeSwitch s i).store = s.store := by
  unfold changeSwitch
  dsimp only
  repeat' split
  all_goals simp

@[simp] theorem takeCountSecond_frame (s : State) (due : Nat) :
    (takeCountSecond s due).pending = s.pending ∧ (takeCountSecond s due).now = s.now ∧
      (takeCountSecond s due).freeCount = s.freeCount ∧
      (takeCountSecond s due).resetnLow = s.resetnLow ∧
      (takeCountSecond s due).supplyLow = s.supplyLow ∧ (takeCountSecond s due).wpu = s.wpu ∧
      (takeCountSecond s due).fest = s.fest ∧ (takeCountSecond s due).dfc = s.dfc ∧
      (takeCountSecond s due).imc = s.imc ∧ (takeCountSecond s due).dsc = s.dsc ∧
      (takeCountSecond s due).ldm = s.ldm ∧ (takeCountSecond s due).rpu = s.rpu ∧
      (takeCountSecond s due).lnk = s.lnk ∧ (takeCountSecond s due).store = s.store := by
  simp [takeCountSecond]

@[simp] theorem setEdge_frame (s : State) (i c : Byte) :
    (setEdge s i c).pending = s.pending ∧ (setEdge s i c).now = s.now ∧
      (setEdge s i c).resetnLow = s.resetnLow ∧ (setEdge s i c).supplyLow = s.supplyLow ∧
      (setEdge s i c).wpu = s.wpu ∧ (setEdge s i c).fest = s.fest ∧ (setEdge s i c).dfc = s.dfc ∧
      (setEdge s i c).imc = s.imc ∧ (setEdge s i c).dsc = s.dsc ∧ (setEdge s i c).ldm = s.ldm ∧
      (setEdge s i c).rpu = s.rpu ∧ (setEdge s i c).store = s.store := by
  unfold setEdge
  repeat' split
  all_goals simp

/-! ### RPU -/

@[simp] theorem insertReport_frame (s : State) (e : Event) :
    (insertReport s e).pending = s.pending ∧ (insertReport s e).now = s.now ∧
      (insertReport s e).freeCount = s.freeCount ∧ (insertReport s e).resetnLow = s.resetnLow ∧
      (insertReport s e).supplyLow = s.supplyLow ∧ (insertReport s e).scan = s.scan ∧
      (insertReport s e).wpu = s.wpu ∧ (insertReport s e).fest = s.fest ∧
      (insertReport s e).dfc = s.dfc ∧ (insertReport s e).imc = s.imc ∧
      (insertReport s e).dsc = s.dsc ∧ (insertReport s e).ldm = s.ldm ∧
      (insertReport s e).lnk = s.lnk ∧ (insertReport s e).store = s.store := by
  unfold insertReport
  dsimp only
  repeat' split
  all_goals simp

@[simp] theorem offerReport_frame (s : State) (e : Event) :
    (offerReport s e).pending = s.pending ∧ (offerReport s e).now = s.now ∧
      (offerReport s e).freeCount = s.freeCount ∧ (offerReport s e).resetnLow = s.resetnLow ∧
      (offerReport s e).supplyLow = s.supplyLow ∧ (offerReport s e).scan = s.scan ∧
      (offerReport s e).wpu = s.wpu ∧ (offerReport s e).fest = s.fest ∧
      (offerReport s e).dfc = s.dfc ∧ (offerReport s e).imc = s.imc ∧
      (offerReport s e).dsc = s.dsc ∧ (offerReport s e).ldm = s.ldm ∧
      (offerReport s e).lnk = s.lnk ∧ (offerReport s e).store = s.store := by
  unfold offerReport
  repeat' split
  all_goals simp

@[simp] theorem takeEvent_frame (s : State) (e : Event) :
    (takeEvent s e).pending = s.pending ∧ (takeEvent s e).now = s.now ∧
      (takeEvent s e).freeCount = s.freeCount ∧ (takeEvent s e).resetnLow = s.resetnLow ∧
      (takeEvent s e).supplyLow = s.supplyLow ∧ (takeEvent s e).scan = s.scan ∧
      (takeEvent s e).wpu = s.wpu ∧ (takeEvent s e).fest = s.fest ∧ (takeEvent s e).dfc = s.dfc ∧
      (takeEvent s e).imc = s.imc ∧ (takeEvent s e).dsc = s.dsc ∧ (takeEvent s e).ldm = s.ldm ∧
      (takeEvent s e).lnk = s.lnk ∧ (takeEvent s e).store = s.store := by
  unfold takeEvent
  repeat' split
  all_goals simp

@[simp] theorem takeAgeSecond_frame (s : State) (due : Nat) :
    (takeAgeSecond s due).pending = s.pending ∧ (takeAgeSecond s due).now = s.now ∧
      (takeAgeSecond s due).freeCount = s.freeCount ∧
      (takeAgeSecond s due).resetnLow = s.resetnLow ∧
      (takeAgeSecond s due).supplyLow = s.supplyLow ∧ (takeAgeSecond s due).scan = s.scan ∧
      (takeAgeSecond s due).wpu = s.wpu ∧ (takeAgeSecond s due).fest = s.fest ∧
      (takeAgeSecond s due).dfc = s.dfc ∧ (takeAgeSecond s due).imc = s.imc ∧
      (takeAgeSecond s due).dsc = s.dsc ∧ (takeAgeSecond s due).ldm = s.ldm ∧
      (takeAgeSecond s due).lnk = s.lnk ∧ (takeAgeSecond s due).store = s.store := by
  simp [takeAgeSecond]

@[simp] theorem clearEvents_frame (s : State) (k : KindSet) :
    (clearEvents s k).pending = s.pending ∧ (clearEvents s k).now = s.now ∧
      (clearEvents s k).freeCount = s.freeCount ∧ (clearEvents s k).resetnLow = s.resetnLow ∧
      (clearEvents s k).supplyLow = s.supplyLow ∧ (clearEvents s k).scan = s.scan ∧
      (clearEvents s k).wpu = s.wpu ∧ (clearEvents s k).fest = s.fest ∧
      (clearEvents s k).dfc = s.dfc ∧ (clearEvents s k).imc = s.imc ∧
      (clearEvents s k).dsc = s.dsc ∧ (clearEvents s k).ldm = s.ldm ∧
      (clearEvents s k).store = s.store := by
  unfold clearEvents
  repeat' split
  all_goals simp

@[simp] theorem setReportEnables_frame (s : State) (k : KindSet) (a : Byte) :
    (setReportEnables s k a).pending = s.pending ∧ (setReportEnables s k a).now = s.now ∧
      (setReportEnables s k a).freeCount = s.freeCount ∧
      (setReportEnables s k a).resetnLow = s.resetnLow ∧
      (setReportEnables s k a).supplyLow = s.supplyLow ∧ (setReportEnables s k a).scan = s.scan ∧
      (setReportEnables s k a).wpu = s.wpu ∧ (setReportEnables s k a).fest = s.fest ∧
      (setReportEnables s k a).dfc = s.dfc ∧ (setReportEnables s k a).imc = s.imc ∧
      (setReportEnables s k a).dsc = s.dsc ∧ (setReportEnables s k a).ldm = s.ldm ∧
      (setReportEnables s k a).store = s.store := by
  unfold setReportEnables
  repeat' split
  all_goals simp

@[simp] theorem fetchReports_frame (s : State) (n : Byte) :
    (fetchReports s n).pending = s.pending ∧ (fetchReports s n).now = s.now ∧
      (fetchReports s n).freeCount = s.freeCount ∧ (fetchReports s n).resetnLow = s.resetnLow ∧
      (fetchReports s n).supplyLow = s.supplyLow ∧ (fetchReports s n).scan = s.scan ∧
      (fetchReports s n).wpu = s.wpu ∧ (fetchReports s n).fest = s.fest ∧
      (fetchReports s n).dfc = s.dfc ∧ (fetchReports s n).imc = s.imc ∧
      (fetchReports s n).dsc = s.dsc ∧ (fetchReports s n).ldm = s.ldm ∧
      (fetchReports s n).store = s.store := by
  simp [fetchReports]

@[simp] theorem readReportCounts_frame (s : State) :
    (readReportCounts s).pending = s.pending ∧ (readReportCounts s).now = s.now ∧
      (readReportCounts s).freeCount = s.freeCount ∧
      (readReportCounts s).resetnLow = s.resetnLow ∧
      (readReportCounts s).supplyLow = s.supplyLow ∧ (readReportCounts s).scan = s.scan ∧
      (readReportCounts s).wpu = s.wpu ∧ (readReportCounts s).fest = s.fest ∧
      (readReportCounts s).dfc = s.dfc ∧ (readReportCounts s).imc = s.imc ∧
      (readReportCounts s).dsc = s.dsc ∧ (readReportCounts s).ldm = s.ldm ∧
      (readReportCounts s).store = s.store := by
  simp [readReportCounts]

/-! ### WPU -/

@[simp] theorem handGranted_frame (s : State) (who : Claimant) (t : Option Nat) :
    (handGranted s who t).pending = s.pending ∧ (handGranted s who t).now = s.now ∧
      (handGranted s who t).freeCount = s.freeCount ∧
      (handGranted s who t).resetnLow = s.resetnLow ∧
      (handGranted s who t).supplyLow = s.supplyLow ∧ (handGranted s who t).scan = s.scan ∧
      (handGranted s who t).wpu = s.wpu ∧ (handGranted s who t).fest = s.fest ∧
      (handGranted s who t).dfc = s.dfc ∧ (handGranted s who t).imc = s.imc ∧
      (handGranted s who t).dsc = s.dsc ∧ (handGranted s who t).ldm = s.ldm ∧
      (handGranted s who t).rpu = s.rpu ∧ (handGranted s who t).lnk = s.lnk ∧
      (handGranted s who t).store = s.store := by
  unfold handGranted
  repeat' split
  all_goals simp

@[simp] theorem handClosed_frame (s : State) (who : Claimant) (c : CloseCause) :
    (handClosed s who c).pending = s.pending ∧ (handClosed s who c).now = s.now ∧
      (handClosed s who c).freeCount = s.freeCount ∧
      (handClosed s who c).resetnLow = s.resetnLow ∧
      (handClosed s who c).supplyLow = s.supplyLow ∧ (handClosed s who c).scan = s.scan ∧
      (handClosed s who c).wpu = s.wpu ∧ (handClosed s who c).fest = s.fest ∧
      (handClosed s who c).dfc = s.dfc ∧ (handClosed s who c).imc = s.imc ∧
      (handClosed s who c).dsc = s.dsc ∧ (handClosed s who c).ldm = s.ldm ∧
      (handClosed s who c).rpu = s.rpu ∧ (handClosed s who c).lnk = s.lnk ∧
      (handClosed s who c).store = s.store := by
  unfold handClosed
  repeat' split
  all_goals simp

@[simp] theorem handSettled_frame (s : State) (who : Claimant) (c : CloseCause) (n : Nat) :
    (handSettled s who c n).pending = s.pending ∧ (handSettled s who c n).now = s.now ∧
      (handSettled s who c n).freeCount = s.freeCount ∧
      (handSettled s who c n).resetnLow = s.resetnLow ∧
      (handSettled s who c n).supplyLow = s.supplyLow ∧ (handSettled s who c n).scan = s.scan ∧
      (handSettled s who c n).wpu = s.wpu ∧ (handSettled s who c n).fest = s.fest ∧
      (handSettled s who c n).dfc = s.dfc ∧ (handSettled s who c n).imc = s.imc ∧
      (handSettled s who c n).dsc = s.dsc ∧ (handSettled s who c n).ldm = s.ldm ∧
      (handSettled s who c n).rpu = s.rpu ∧ (handSettled s who c n).lnk = s.lnk ∧
      (handSettled s who c n).store = s.store := by
  unfold handSettled
  repeat' split
  all_goals simp

@[simp] theorem handWithdrawn_frame (s : State) (who : Claimant) :
    (handWithdrawn s who).pending = s.pending ∧ (handWithdrawn s who).now = s.now ∧
      (handWithdrawn s who).freeCount = s.freeCount ∧
      (handWithdrawn s who).resetnLow = s.resetnLow ∧
      (handWithdrawn s who).supplyLow = s.supplyLow ∧ (handWithdrawn s who).scan = s.scan ∧
      (handWithdrawn s who).wpu = s.wpu ∧ (handWithdrawn s who).fest = s.fest ∧
      (handWithdrawn s who).dfc = s.dfc ∧ (handWithdrawn s who).imc = s.imc ∧
      (handWithdrawn s who).dsc = s.dsc ∧ (handWithdrawn s who).ldm = s.ldm ∧
      (handWithdrawn s who).rpu = s.rpu ∧ (handWithdrawn s who).lnk = s.lnk ∧
      (handWithdrawn s who).store = s.store := by
  unfold handWithdrawn
  repeat' split
  all_goals simp

@[simp] theorem handMillilitre_frame (s : State) (who : Claimant) :
    (handMillilitre s who).pending = s.pending ∧ (handMillilitre s who).now = s.now ∧
      (handMillilitre s who).freeCount = s.freeCount ∧
      (handMillilitre s who).resetnLow = s.resetnLow ∧
      (handMillilitre s who).supplyLow = s.supplyLow ∧ (handMillilitre s who).scan = s.scan ∧
      (handMillilitre s who).wpu = s.wpu ∧ (handMillilitre s who).fest = s.fest ∧
      (handMillilitre s who).dfc = s.dfc ∧ (handMillilitre s who).imc = s.imc ∧
      (handMillilitre s who).dsc = s.dsc ∧ (handMillilitre s who).ldm = s.ldm ∧
      (handMillilitre s who).rpu = s.rpu ∧ (handMillilitre s who).lnk = s.lnk ∧
      (handMillilitre s who).store = s.store := by
  unfold handMillilitre
  repeat' split
  all_goals simp

@[simp] theorem grantPath_frame (s : State) (who : Claimant) :
    (grantPath s who).pending = s.pending ∧ (grantPath s who).now = s.now ∧
      (grantPath s who).freeCount = s.freeCount ∧ (grantPath s who).resetnLow = s.resetnLow ∧
      (grantPath s who).supplyLow = s.supplyLow ∧ (grantPath s who).scan = s.scan ∧
      (grantPath s who).fest = s.fest ∧ (grantPath s who).dfc = s.dfc ∧
      (grantPath s who).imc = s.imc ∧ (grantPath s who).dsc = s.dsc ∧
      (grantPath s who).ldm = s.ldm ∧ (grantPath s who).rpu = s.rpu ∧
      (grantPath s who).lnk = s.lnk ∧ (grantPath s who).store = s.store := by
  simp [grantPath]

@[simp] theorem arbitrate_frame (s : State) :
    (arbitrate s).pending = s.pending ∧ (arbitrate s).now = s.now ∧
      (arbitrate s).freeCount = s.freeCount ∧ (arbitrate s).resetnLow = s.resetnLow ∧
      (arbitrate s).supplyLow = s.supplyLow ∧ (arbitrate s).scan = s.scan ∧
      (arbitrate s).fest = s.fest ∧ (arbitrate s).dfc = s.dfc ∧ (arbitrate s).imc = s.imc ∧
      (arbitrate s).dsc = s.dsc ∧ (arbitrate s).ldm = s.ldm ∧ (arbitrate s).rpu = s.rpu ∧
      (arbitrate s).lnk = s.lnk ∧ (arbitrate s).store = s.store := by
  unfold arbitrate
  repeat' split
  all_goals simp

@[simp] theorem closeCoil_frame (s : State) (c : CloseCause) :
    (closeCoil s c).pending = s.pending ∧ (closeCoil s c).now = s.now ∧
      (closeCoil s c).freeCount = s.freeCount ∧ (closeCoil s c).resetnLow = s.resetnLow ∧
      (closeCoil s c).supplyLow = s.supplyLow ∧ (closeCoil s c).scan = s.scan ∧
      (closeCoil s c).fest = s.fest ∧ (closeCoil s c).dfc = s.dfc ∧ (closeCoil s c).imc = s.imc ∧
      (closeCoil s c).dsc = s.dsc ∧ (closeCoil s c).ldm = s.ldm ∧ (closeCoil s c).rpu = s.rpu ∧
      (closeCoil s c).lnk = s.lnk ∧ (closeCoil s c).store = s.store := by
  unfold closeCoil
  repeat' split
  all_goals simp

@[simp] theorem iceWaitsAgain_frame (s : State) :
    (iceWaitsAgain s).pending = s.pending ∧ (iceWaitsAgain s).now = s.now ∧
      (iceWaitsAgain s).freeCount = s.freeCount ∧ (iceWaitsAgain s).resetnLow = s.resetnLow ∧
      (iceWaitsAgain s).supplyLow = s.supplyLow ∧ (iceWaitsAgain s).scan = s.scan ∧
      (iceWaitsAgain s).fest = s.fest ∧ (iceWaitsAgain s).dfc = s.dfc ∧
      (iceWaitsAgain s).imc = s.imc ∧ (iceWaitsAgain s).dsc = s.dsc ∧
      (iceWaitsAgain s).ldm = s.ldm ∧ (iceWaitsAgain s).rpu = s.rpu ∧
      (iceWaitsAgain s).lnk = s.lnk ∧ (iceWaitsAgain s).store = s.store := by
  simp [iceWaitsAgain]

@[simp] theorem preemptFill_frame (s : State) :
    (preemptFill s).pending = s.pending ∧ (preemptFill s).now = s.now ∧
      (preemptFill s).freeCount = s.freeCount ∧ (preemptFill s).resetnLow = s.resetnLow ∧
      (preemptFill s).supplyLow = s.supplyLow ∧ (preemptFill s).scan = s.scan ∧
      (preemptFill s).fest = s.fest ∧ (preemptFill s).dfc = s.dfc ∧ (preemptFill s).imc = s.imc ∧
      (preemptFill s).dsc = s.dsc ∧ (preemptFill s).ldm = s.ldm ∧ (preemptFill s).rpu = s.rpu ∧
      (preemptFill s).lnk = s.lnk ∧ (preemptFill s).store = s.store := by
  simp [preemptFill]

@[simp] theorem makeClaim_frame (s : State) (who : Claimant) (t : Option Nat) (n p : Nat) :
    (makeClaim s who t n p).pending = s.pending ∧ (makeClaim s who t n p).now = s.now ∧
      (makeClaim s who t n p).freeCount = s.freeCount ∧
      (makeClaim s who t n p).resetnLow = s.resetnLow ∧
      (makeClaim s who t n p).supplyLow = s.supplyLow ∧ (makeClaim s who t n p).scan = s.scan ∧
      (makeClaim s who t n p).fest = s.fest ∧ (makeClaim s who t n p).dfc = s.dfc ∧
      (makeClaim s who t n p).imc = s.imc ∧ (makeClaim s who t n p).dsc = s.dsc ∧
      (makeClaim s who t n p).ldm = s.ldm ∧ (makeClaim s who t n p).rpu = s.rpu ∧
      (makeClaim s who t n p).lnk = s.lnk ∧ (makeClaim s who t n p).store = s.store := by
  unfold makeClaim
  dsimp only
  repeat' split
  all_goals simp

@[simp] theorem withdrawClaim_frame (s : State) (who : Claimant) :
    (withdrawClaim s who).pending = s.pending ∧ (withdrawClaim s who).now = s.now ∧
      (withdrawClaim s who).freeCount = s.freeCount ∧
      (withdrawClaim s who).resetnLow = s.resetnLow ∧
      (withdrawClaim s who).supplyLow = s.supplyLow ∧ (withdrawClaim s who).scan = s.scan ∧
      (withdrawClaim s who).fest = s.fest ∧ (withdrawClaim s who).dfc = s.dfc ∧
      (withdrawClaim s who).imc = s.imc ∧ (withdrawClaim s who).dsc = s.dsc ∧
      (withdrawClaim s who).ldm = s.ldm ∧ (withdrawClaim s who).rpu = s.rpu ∧
      (withdrawClaim s who).lnk = s.lnk ∧ (withdrawClaim s who).store = s.store := by
  unfold withdrawClaim
  repeat' split
  all_goals simp

@[simp] theorem releaseClaim_frame (s : State) (who : Claimant) :
    (releaseClaim s who).pending = s.pending ∧ (releaseClaim s who).now = s.now ∧
      (releaseClaim s who).freeCount = s.freeCount ∧
      (releaseClaim s who).resetnLow = s.resetnLow ∧
      (releaseClaim s who).supplyLow = s.supplyLow ∧ (releaseClaim s who).scan = s.scan ∧
      (releaseClaim s who).fest = s.fest ∧ (releaseClaim s who).dfc = s.dfc ∧
      (releaseClaim s who).imc = s.imc ∧ (releaseClaim s who).dsc = s.dsc ∧
      (releaseClaim s who).ldm = s.ldm ∧ (releaseClaim s who).rpu = s.rpu ∧
      (releaseClaim s who).lnk = s.lnk ∧ (releaseClaim s who).store = s.store := by
  unfold releaseClaim
  repeat' split
  all_goals simp

@[simp] theorem reevaluateFilter_frame (s : State) :
    (reevaluateFilter s).pending = s.pending ∧ (reevaluateFilter s).now = s.now ∧
      (reevaluateFilter s).freeCount = s.freeCount ∧
      (reevaluateFilter s).resetnLow = s.resetnLow ∧
      (reevaluateFilter s).supplyLow = s.supplyLow ∧ (reevaluateFilter s).scan = s.scan ∧
      (reevaluateFilter s).fest = s.fest ∧ (reevaluateFilter s).dfc = s.dfc ∧
      (reevaluateFilter s).imc = s.imc ∧ (reevaluateFilter s).dsc = s.dsc ∧
      (reevaluateFilter s).ldm = s.ldm ∧ (reevaluateFilter s).rpu = s.rpu ∧
      (reevaluateFilter s).lnk = s.lnk ∧ (reevaluateFilter s).store = s.store := by
  unfold reevaluateFilter
  dsimp only
  repeat' split
  all_goals simp

@[simp] theorem countUsed_frame (s : State) :
    (countUsed s).pending = s.pending ∧ (countUsed s).now = s.now ∧
      (countUsed s).freeCount = s.freeCount ∧ (countUsed s).resetnLow = s.resetnLow ∧
      (countUsed s).supplyLow = s.supplyLow ∧ (countUsed s).scan = s.scan ∧
      (countUsed s).fest = s.fest ∧ (countUsed s).dfc = s.dfc ∧ (countUsed s).imc = s.imc ∧
      (countUsed s).dsc = s.dsc ∧ (countUsed s).ldm = s.ldm ∧ (countUsed s).rpu = s.rpu ∧
      (countUsed s).lnk = s.lnk ∧ (countUsed s).store = s.store := by
  unfold countUsed
  dsimp only
  repeat' split
  all_goals simp

@[simp] theorem chargeUnclaimed_frame (s : State) :
    (chargeUnclaimed s).pending = s.pending ∧ (chargeUnclaimed s).now = s.now ∧
      (chargeUnclaimed s).freeCount = s.freeCount ∧ (chargeUnclaimed s).resetnLow = s.resetnLow ∧
      (chargeUnclaimed s).supplyLow = s.supplyLow ∧ (chargeUnclaimed s).scan = s.scan ∧
      (chargeUnclaimed s).fest = s.fest ∧ (chargeUnclaimed s).dfc = s.dfc ∧
      (chargeUnclaimed s).imc = s.imc ∧ (chargeUnclaimed s).dsc = s.dsc ∧
      (chargeUnclaimed s).ldm = s.ldm ∧ (chargeUnclaimed s).rpu = s.rpu ∧
      (chargeUnclaimed s).lnk = s.lnk ∧ (chargeUnclaimed s).store = s.store := by
  unfold chargeUnclaimed
  dsimp only
  repeat' split
  all_goals simp

@[simp] theorem chargeHolder_frame (s : State) (g : Grant) :
    (chargeHolder s g).pending = s.pending ∧ (chargeHolder s g).now = s.now ∧
      (chargeHolder s g).freeCount = s.freeCount ∧ (chargeHolder s g).resetnLow = s.resetnLow ∧
      (chargeHolder s g).supplyLow = s.supplyLow ∧ (chargeHolder s g).scan = s.scan ∧
      (chargeHolder s g).fest = s.fest ∧ (chargeHolder s g).dfc = s.dfc ∧
      (chargeHolder s g).imc = s.imc ∧ (chargeHolder s g).dsc = s.dsc ∧
      (chargeHolder s g).ldm = s.ldm ∧ (chargeHolder s g).rpu = s.rpu ∧
      (chargeHolder s g).lnk = s.lnk ∧ (chargeHolder s g).store = s.store := by
  unfold chargeHolder
  dsimp only
  repeat' split
  all_goals simp

@[simp] theorem chargeMillilitre_frame (s : State) :
    (chargeMillilitre s).pending = s.pending ∧ (chargeMillilitre s).now = s.now ∧
      (chargeMillilitre s).freeCount = s.freeCount ∧
      (chargeMillilitre s).resetnLow = s.resetnLow ∧
      (chargeMillilitre s).supplyLow = s.supplyLow ∧ (chargeMillilitre s).scan = s.scan ∧
      (chargeMillilitre s).fest = s.fest ∧ (chargeMillilitre s).dfc = s.dfc ∧
      (chargeMillilitre s).imc = s.imc ∧ (chargeMillilitre s).dsc = s.dsc ∧
      (chargeMillilitre s).ldm = s.ldm ∧ (chargeMillilitre s).rpu = s.rpu ∧
      (chargeMillilitre s).lnk = s.lnk ∧ (chargeMillilitre s).store = s.store := by
  unfold chargeMillilitre
  repeat' split
  all_goals simp

@[simp] theorem takePulse_frame (s : State) :
    (takePulse s).pending = s.pending ∧ (takePulse s).now = s.now ∧
      (takePulse s).freeCount = s.freeCount ∧ (takePulse s).resetnLow = s.resetnLow ∧
      (takePulse s).supplyLow = s.supplyLow ∧ (takePulse s).scan = s.scan ∧
      (takePulse s).fest = s.fest ∧ (takePulse s).dfc = s.dfc ∧ (takePulse s).imc = s.imc ∧
      (takePulse s).dsc = s.dsc ∧ (takePulse s).ldm = s.ldm ∧ (takePulse s).rpu = s.rpu ∧
      (takePulse s).lnk = s.lnk ∧ (takePulse s).store = s.store := by
  unfold takePulse
  dsimp only
  repeat' split
  all_goals simp

@[simp] theorem endGrant_frame (s : State) (g : Grant) :
    (endGrant s g).pending = s.pending ∧ (endGrant s g).now = s.now ∧
      (endGrant s g).freeCount = s.freeCount ∧ (endGrant s g).resetnLow = s.resetnLow ∧
      (endGrant s g).supplyLow = s.supplyLow ∧ (endGrant s g).scan = s.scan ∧
      (endGrant s g).fest = s.fest ∧ (endGrant s g).dfc = s.dfc ∧ (endGrant s g).imc = s.imc ∧
      (endGrant s g).dsc = s.dsc ∧ (endGrant s g).ldm = s.ldm ∧ (endGrant s g).rpu = s.rpu ∧
      (endGrant s g).lnk = s.lnk ∧ (endGrant s g).store = s.store := by
  unfold endGrant
  dsimp only
  repeat' split
  all_goals simp

@[simp] theorem wpuSagEntry_frame (s : State) :
    (wpuSagEntry s).pending = s.pending ∧ (wpuSagEntry s).now = s.now ∧
      (wpuSagEntry s).freeCount = s.freeCount ∧ (wpuSagEntry s).resetnLow = s.resetnLow ∧
      (wpuSagEntry s).supplyLow = s.supplyLow ∧ (wpuSagEntry s).scan = s.scan ∧
      (wpuSagEntry s).fest = s.fest ∧ (wpuSagEntry s).dfc = s.dfc ∧ (wpuSagEntry s).imc = s.imc ∧
      (wpuSagEntry s).dsc = s.dsc ∧ (wpuSagEntry s).ldm = s.ldm ∧ (wpuSagEntry s).rpu = s.rpu ∧
      (wpuSagEntry s).lnk = s.lnk ∧ (wpuSagEntry s).store = s.store := by
  unfold wpuSagEntry
  dsimp only
  repeat' split
  all_goals simp

@[simp] theorem wpuSagExit_frame (s : State) :
    (wpuSagExit s).pending = s.pending ∧ (wpuSagExit s).now = s.now ∧
      (wpuSagExit s).freeCount = s.freeCount ∧ (wpuSagExit s).resetnLow = s.resetnLow ∧
      (wpuSagExit s).supplyLow = s.supplyLow ∧ (wpuSagExit s).scan = s.scan ∧
      (wpuSagExit s).fest = s.fest ∧ (wpuSagExit s).dfc = s.dfc ∧ (wpuSagExit s).imc = s.imc ∧
      (wpuSagExit s).dsc = s.dsc ∧ (wpuSagExit s).ldm = s.ldm ∧ (wpuSagExit s).rpu = s.rpu ∧
      (wpuSagExit s).lnk = s.lnk ∧ (wpuSagExit s).store = s.store := by
  simp [wpuSagExit]

@[simp] theorem takeLeakMinute_frame (s : State) (due : Nat) :
    (takeLeakMinute s due).pending = s.pending ∧ (takeLeakMinute s due).now = s.now ∧
      (takeLeakMinute s due).freeCount = s.freeCount ∧
      (takeLeakMinute s due).resetnLow = s.resetnLow ∧
      (takeLeakMinute s due).supplyLow = s.supplyLow ∧ (takeLeakMinute s due).scan = s.scan ∧
      (takeLeakMinute s due).fest = s.fest ∧ (takeLeakMinute s due).dfc = s.dfc ∧
      (takeLeakMinute s due).imc = s.imc ∧ (takeLeakMinute s due).dsc = s.dsc ∧
      (takeLeakMinute s due).ldm = s.ldm ∧ (takeLeakMinute s due).rpu = s.rpu ∧
      (takeLeakMinute s due).lnk = s.lnk ∧ (takeLeakMinute s due).store = s.store := by
  simp [takeLeakMinute]

@[simp] theorem takeDaySecond_frame (s : State) (due : Nat) :
    (takeDaySecond s due).pending = s.pending ∧ (takeDaySecond s due).now = s.now ∧
      (takeDaySecond s due).freeCount = s.freeCount ∧
      (takeDaySecond s due).resetnLow = s.resetnLow ∧
      (takeDaySecond s due).supplyLow = s.supplyLow ∧ (takeDaySecond s due).scan = s.scan ∧
      (takeDaySecond s due).fest = s.fest ∧ (takeDaySecond s due).dfc = s.dfc ∧
      (takeDaySecond s due).imc = s.imc ∧ (takeDaySecond s due).dsc = s.dsc ∧
      (takeDaySecond s due).ldm = s.ldm ∧ (takeDaySecond s due).rpu = s.rpu ∧
      (takeDaySecond s due).lnk = s.lnk ∧ (takeDaySecond s due).store = s.store := by
  unfold takeDaySecond
  dsimp only
  repeat' split
  all_goals simp

@[simp] theorem filterReset_frame (s : State) (c : BitVec 24) :
    (filterReset s c).pending = s.pending ∧ (filterReset s c).now = s.now ∧
      (filterReset s c).freeCount = s.freeCount ∧ (filterReset s c).resetnLow = s.resetnLow ∧
      (filterReset s c).supplyLow = s.supplyLow ∧ (filterReset s c).scan = s.scan ∧
      (filterReset s c).fest = s.fest ∧ (filterReset s c).dfc = s.dfc ∧
      (filterReset s c).imc = s.imc ∧ (filterReset s c).dsc = s.dsc ∧
      (filterReset s c).ldm = s.ldm ∧ (filterReset s c).rpu = s.rpu ∧
      (filterReset s c).store = s.store := by
  simp [filterReset]

/-! ### FEST -/

@[simp] theorem handRequest_frame (s : State) (o : Option FestReason) (f : Nat) :
    (handRequest s o f).pending = s.pending ∧ (handRequest s o f).now = s.now ∧
      (handRequest s o f).freeCount = s.freeCount ∧ (handRequest s o f).resetnLow = s.resetnLow ∧
      (handRequest s o f).supplyLow = s.supplyLow ∧ (handRequest s o f).scan = s.scan ∧
      (handRequest s o f).wpu = s.wpu ∧ (handRequest s o f).fest = s.fest ∧
      (handRequest s o f).dfc = s.dfc ∧ (handRequest s o f).imc = s.imc ∧
      (handRequest s o f).dsc = s.dsc ∧ (handRequest s o f).ldm = s.ldm ∧
      (handRequest s o f).rpu = s.rpu ∧ (handRequest s o f).lnk = s.lnk ∧
      (handRequest s o f).store = s.store := by
  unfold handRequest
  repeat' split
  all_goals simp

@[simp] theorem takeMinute_frame (s : State) (due : Nat) :
    (takeMinute s due).pending = s.pending ∧ (takeMinute s due).now = s.now ∧
      (takeMinute s due).freeCount = s.freeCount ∧ (takeMinute s due).resetnLow = s.resetnLow ∧
      (takeMinute s due).supplyLow = s.supplyLow ∧ (takeMinute s due).wpu = s.wpu ∧
      (takeMinute s due).dfc = s.dfc ∧ (takeMinute s due).imc = s.imc ∧
      (takeMinute s due).dsc = s.dsc ∧ (takeMinute s due).ldm = s.ldm ∧
      (takeMinute s due).rpu = s.rpu ∧ (takeMinute s due).lnk = s.lnk ∧
      (takeMinute s due).store = s.store := by
  simp [takeMinute]

@[simp] theorem takeHeatEnd_frame (s : State) (c : HeatEnd) (h : Nat) :
    (takeHeatEnd s c h).pending = s.pending ∧ (takeHeatEnd s c h).now = s.now ∧
      (takeHeatEnd s c h).freeCount = s.freeCount ∧ (takeHeatEnd s c h).resetnLow = s.resetnLow ∧
      (takeHeatEnd s c h).supplyLow = s.supplyLow ∧ (takeHeatEnd s c h).scan = s.scan ∧
      (takeHeatEnd s c h).wpu = s.wpu ∧ (takeHeatEnd s c h).dfc = s.dfc ∧
      (takeHeatEnd s c h).imc = s.imc ∧ (takeHeatEnd s c h).dsc = s.dsc ∧
      (takeHeatEnd s c h).ldm = s.ldm ∧ (takeHeatEnd s c h).rpu = s.rpu ∧
      (takeHeatEnd s c h).lnk = s.lnk ∧ (takeHeatEnd s c h).store = s.store := by
  simp [takeHeatEnd]

/-! ### LDM -/

@[simp] theorem handLoad_frame (s : State) (x : Load) (b : Bool) :
    (handLoad s x b).pending = s.pending ∧ (handLoad s x b).now = s.now ∧
      (handLoad s x b).freeCount = s.freeCount ∧ (handLoad s x b).resetnLow = s.resetnLow ∧
      (handLoad s x b).supplyLow = s.supplyLow ∧ (handLoad s x b).scan = s.scan ∧
      (handLoad s x b).wpu = s.wpu ∧ (handLoad s x b).fest = s.fest ∧
      (handLoad s x b).dfc = s.dfc ∧ (handLoad s x b).imc = s.imc ∧
      (handLoad s x b).dsc = s.dsc ∧ (handLoad s x b).ldm = s.ldm ∧
      (handLoad s x b).rpu = s.rpu ∧ (handLoad s x b).lnk = s.lnk ∧
      (handLoad s x b).store = s.store := by
  unfold handLoad
  repeat' split
  all_goals simp

@[simp] theorem handIfChanged_frame (old : Loads) (s : State) (x : Load) :
    (handIfChanged old s x).pending = s.pending ∧ (handIfChanged old s x).now = s.now ∧
      (handIfChanged old s x).freeCount = s.freeCount ∧
      (handIfChanged old s x).resetnLow = s.resetnLow ∧
      (handIfChanged old s x).supplyLow = s.supplyLow ∧ (handIfChanged old s x).scan = s.scan ∧
      (handIfChanged old s x).wpu = s.wpu ∧ (handIfChanged old s x).fest = s.fest ∧
      (handIfChanged old s x).dfc = s.dfc ∧ (handIfChanged old s x).imc = s.imc ∧
      (handIfChanged old s x).dsc = s.dsc ∧ (handIfChanged old s x).ldm = s.ldm ∧
      (handIfChanged old s x).rpu = s.rpu ∧ (handIfChanged old s x).lnk = s.lnk ∧
      (handIfChanged old s x).store = s.store := by
  unfold handIfChanged
  dsimp only
  repeat' split
  all_goals simp

@[simp] theorem commitLoads_frame (s : State) (l : Loads) :
    (commitLoads s l).pending = s.pending ∧ (commitLoads s l).now = s.now ∧
      (commitLoads s l).freeCount = s.freeCount ∧ (commitLoads s l).resetnLow = s.resetnLow ∧
      (commitLoads s l).supplyLow = s.supplyLow ∧ (commitLoads s l).scan = s.scan ∧
      (commitLoads s l).wpu = s.wpu ∧ (commitLoads s l).fest = s.fest ∧
      (commitLoads s l).dfc = s.dfc ∧ (commitLoads s l).imc = s.imc ∧
      (commitLoads s l).dsc = s.dsc ∧ (commitLoads s l).rpu = s.rpu ∧
      (commitLoads s l).lnk = s.lnk ∧ (commitLoads s l).store = s.store := by
  unfold commitLoads loadOrder
  simp

@[simp] theorem settleLoads_frame (s : State) (l : Loads) :
    (settleLoads s l).pending = s.pending ∧ (settleLoads s l).now = s.now ∧
      (settleLoads s l).freeCount = s.freeCount ∧ (settleLoads s l).resetnLow = s.resetnLow ∧
      (settleLoads s l).supplyLow = s.supplyLow ∧ (settleLoads s l).scan = s.scan ∧
      (settleLoads s l).wpu = s.wpu ∧ (settleLoads s l).fest = s.fest ∧
      (settleLoads s l).dfc = s.dfc ∧ (settleLoads s l).imc = s.imc ∧
      (settleLoads s l).dsc = s.dsc ∧ (settleLoads s l).rpu = s.rpu ∧
      (settleLoads s l).lnk = s.lnk ∧ (settleLoads s l).store = s.store := by
  unfold settleLoads
  repeat' split
  all_goals simp

@[simp] theorem rebalance_frame (s : State) (l : Loads) :
    (rebalance s l).pending = s.pending ∧ (rebalance s l).now = s.now ∧
      (rebalance s l).freeCount = s.freeCount ∧ (rebalance s l).resetnLow = s.resetnLow ∧
      (rebalance s l).supplyLow = s.supplyLow ∧ (rebalance s l).scan = s.scan ∧
      (rebalance s l).wpu = s.wpu ∧ (rebalance s l).fest = s.fest ∧ (rebalance s l).dfc = s.dfc ∧
      (rebalance s l).imc = s.imc ∧ (rebalance s l).dsc = s.dsc ∧ (rebalance s l).rpu = s.rpu ∧
      (rebalance s l).lnk = s.lnk ∧ (rebalance s l).store = s.store := by
  unfold rebalance
  repeat' split
  all_goals simp

@[simp] theorem requestLoad_frame (s : State) (x : Load) (d : Nat) :
    (requestLoad s x d).pending = s.pending ∧ (requestLoad s x d).now = s.now ∧
      (requestLoad s x d).freeCount = s.freeCount ∧ (requestLoad s x d).resetnLow = s.resetnLow ∧
      (requestLoad s x d).supplyLow = s.supplyLow ∧ (requestLoad s x d).scan = s.scan ∧
      (requestLoad s x d).wpu = s.wpu ∧ (requestLoad s x d).fest = s.fest ∧
      (requestLoad s x d).dfc = s.dfc ∧ (requestLoad s x d).imc = s.imc ∧
      (requestLoad s x d).dsc = s.dsc ∧ (requestLoad s x d).rpu = s.rpu ∧
      (requestLoad s x d).lnk = s.lnk ∧ (requestLoad s x d).store = s.store := by
  unfold requestLoad
  dsimp only
  repeat' split
  all_goals simp

@[simp] theorem changeDuty_frame (s : State) (x : Load) (d : Nat) :
    (changeDuty s x d).pending = s.pending ∧ (changeDuty s x d).now = s.now ∧
      (changeDuty s x d).freeCount = s.freeCount ∧ (changeDuty s x d).resetnLow = s.resetnLow ∧
      (changeDuty s x d).supplyLow = s.supplyLow ∧ (changeDuty s x d).scan = s.scan ∧
      (changeDuty s x d).wpu = s.wpu ∧ (changeDuty s x d).fest = s.fest ∧
      (changeDuty s x d).dfc = s.dfc ∧ (changeDuty s x d).imc = s.imc ∧
      (changeDuty s x d).dsc = s.dsc ∧ (changeDuty s x d).rpu = s.rpu ∧
      (changeDuty s x d).lnk = s.lnk ∧ (changeDuty s x d).store = s.store := by
  simp [changeDuty]

@[simp] theorem takeRequest_frame (s : State) (c : Instr) :
    (takeRequest s c).pending = s.pending ∧ (takeRequest s c).now = s.now ∧
      (takeRequest s c).freeCount = s.freeCount ∧ (takeRequest s c).resetnLow = s.resetnLow ∧
      (takeRequest s c).supplyLow = s.supplyLow ∧ (takeRequest s c).scan = s.scan ∧
      (takeRequest s c).wpu = s.wpu ∧ (takeRequest s c).fest = s.fest ∧
      (takeRequest s c).dfc = s.dfc ∧ (takeRequest s c).imc = s.imc ∧
      (takeRequest s c).dsc = s.dsc ∧ (takeRequest s c).rpu = s.rpu ∧
      (takeRequest s c).lnk = s.lnk ∧ (takeRequest s c).store = s.store := by
  unfold takeRequest
  repeat' split
  all_goals simp

@[simp] theorem foldl_takeRequest_frame (s : State) (cs : List Instr) :
    (cs.foldl takeRequest s).pending = s.pending ∧ (cs.foldl takeRequest s).now = s.now ∧
      (cs.foldl takeRequest s).freeCount = s.freeCount ∧
      (cs.foldl takeRequest s).resetnLow = s.resetnLow ∧
      (cs.foldl takeRequest s).supplyLow = s.supplyLow ∧ (cs.foldl takeRequest s).scan = s.scan ∧
      (cs.foldl takeRequest s).wpu = s.wpu ∧ (cs.foldl takeRequest s).fest = s.fest ∧
      (cs.foldl takeRequest s).dfc = s.dfc ∧ (cs.foldl takeRequest s).imc = s.imc ∧
      (cs.foldl takeRequest s).dsc = s.dsc ∧ (cs.foldl takeRequest s).rpu = s.rpu ∧
      (cs.foldl takeRequest s).lnk = s.lnk ∧ (cs.foldl takeRequest s).store = s.store := by
  induction cs generalizing s with
  | nil => simp
  | cons c cs ih => simp [ih]

@[simp] theorem takeInFlight_frame (s : State) (x : Load) :
    (takeInFlight s x).pending = s.pending ∧ (takeInFlight s x).now = s.now ∧
      (takeInFlight s x).freeCount = s.freeCount ∧ (takeInFlight s x).resetnLow = s.resetnLow ∧
      (takeInFlight s x).supplyLow = s.supplyLow ∧ (takeInFlight s x).scan = s.scan ∧
      (takeInFlight s x).wpu = s.wpu ∧ (takeInFlight s x).fest = s.fest ∧
      (takeInFlight s x).dfc = s.dfc ∧ (takeInFlight s x).imc = s.imc ∧
      (takeInFlight s x).dsc = s.dsc ∧ (takeInFlight s x).rpu = s.rpu ∧
      (takeInFlight s x).lnk = s.lnk ∧ (takeInFlight s x).store = s.store := by
  simp [takeInFlight]

@[simp] theorem evaluateNow_frame (s : State) :
    (evaluateNow s).pending = s.pending ∧ (evaluateNow s).now = s.now ∧
      (evaluateNow s).freeCount = s.freeCount ∧ (evaluateNow s).resetnLow = s.resetnLow ∧
      (evaluateNow s).supplyLow = s.supplyLow ∧ (evaluateNow s).scan = s.scan ∧
      (evaluateNow s).wpu = s.wpu ∧ (evaluateNow s).fest = s.fest ∧ (evaluateNow s).dfc = s.dfc ∧
      (evaluateNow s).imc = s.imc ∧ (evaluateNow s).dsc = s.dsc ∧ (evaluateNow s).rpu = s.rpu ∧
      (evaluateNow s).lnk = s.lnk ∧ (evaluateNow s).store = s.store := by
  unfold evaluateNow
  repeat' split
  all_goals simp

@[simp] theorem releaseEntry_frame (s : State) (x : Load) :
    (releaseEntry s x).pending = s.pending ∧ (releaseEntry s x).now = s.now ∧
      (releaseEntry s x).freeCount = s.freeCount ∧ (releaseEntry s x).resetnLow = s.resetnLow ∧
      (releaseEntry s x).supplyLow = s.supplyLow ∧ (releaseEntry s x).scan = s.scan ∧
      (releaseEntry s x).wpu = s.wpu ∧ (releaseEntry s x).fest = s.fest ∧
      (releaseEntry s x).dfc = s.dfc ∧ (releaseEntry s x).imc = s.imc ∧
      (releaseEntry s x).dsc = s.dsc ∧ (releaseEntry s x).rpu = s.rpu ∧
      (releaseEntry s x).lnk = s.lnk ∧ (releaseEntry s x).store = s.store := by
  unfold releaseEntry
  dsimp only
  repeat' split
  all_goals simp

@[simp] theorem releaseLoad_frame (s : State) (x : Load) :
    (releaseLoad s x).pending = s.pending ∧ (releaseLoad s x).now = s.now ∧
      (releaseLoad s x).freeCount = s.freeCount ∧ (releaseLoad s x).resetnLow = s.resetnLow ∧
      (releaseLoad s x).supplyLow = s.supplyLow ∧ (releaseLoad s x).scan = s.scan ∧
      (releaseLoad s x).wpu = s.wpu ∧ (releaseLoad s x).fest = s.fest ∧
      (releaseLoad s x).dfc = s.dfc ∧ (releaseLoad s x).imc = s.imc ∧
      (releaseLoad s x).dsc = s.dsc ∧ (releaseLoad s x).rpu = s.rpu ∧
      (releaseLoad s x).lnk = s.lnk ∧ (releaseLoad s x).store = s.store := by
  simp [releaseLoad]

@[simp] theorem takeDutyPeriod_frame (s : State) (x : Load) :
    (takeDutyPeriod s x).pending = s.pending ∧ (takeDutyPeriod s x).now = s.now ∧
      (takeDutyPeriod s x).freeCount = s.freeCount ∧
      (takeDutyPeriod s x).resetnLow = s.resetnLow ∧
      (takeDutyPeriod s x).supplyLow = s.supplyLow ∧ (takeDutyPeriod s x).scan = s.scan ∧
      (takeDutyPeriod s x).wpu = s.wpu ∧ (takeDutyPeriod s x).fest = s.fest ∧
      (takeDutyPeriod s x).dfc = s.dfc ∧ (takeDutyPeriod s x).imc = s.imc ∧
      (takeDutyPeriod s x).dsc = s.dsc ∧ (takeDutyPeriod s x).rpu = s.rpu ∧
      (takeDutyPeriod s x).lnk = s.lnk ∧ (takeDutyPeriod s x).store = s.store := by
  unfold takeDutyPeriod
  dsimp only
  repeat' split
  all_goals simp

@[simp] theorem sagEntry_frame (s : State) :
    (sagEntry s).pending = s.pending ∧ (sagEntry s).now = s.now ∧
      (sagEntry s).freeCount = s.freeCount ∧ (sagEntry s).resetnLow = s.resetnLow ∧
      (sagEntry s).supplyLow = s.supplyLow ∧ (sagEntry s).scan = s.scan ∧
      (sagEntry s).wpu = s.wpu ∧ (sagEntry s).fest = s.fest ∧ (sagEntry s).dfc = s.dfc ∧
      (sagEntry s).imc = s.imc ∧ (sagEntry s).dsc = s.dsc ∧ (sagEntry s).rpu = s.rpu ∧
      (sagEntry s).lnk = s.lnk ∧ (sagEntry s).store = s.store := by
  simp [sagEntry]

@[simp] theorem sagExit_frame (s : State) :
    (sagExit s).pending = s.pending ∧ (sagExit s).now = s.now ∧
      (sagExit s).freeCount = s.freeCount ∧ (sagExit s).resetnLow = s.resetnLow ∧
      (sagExit s).supplyLow = s.supplyLow ∧ (sagExit s).scan = s.scan ∧ (sagExit s).wpu = s.wpu ∧
      (sagExit s).fest = s.fest ∧ (sagExit s).dfc = s.dfc ∧ (sagExit s).imc = s.imc ∧
      (sagExit s).dsc = s.dsc ∧ (sagExit s).rpu = s.rpu ∧ (sagExit s).lnk = s.lnk ∧
      (sagExit s).store = s.store := by
  simp [sagExit]

@[simp] theorem State.withRail_frame (s : State) (r : Nat) :
    (State.withRail s r).pending = s.pending ∧ (State.withRail s r).now = s.now ∧
      (State.withRail s r).freeCount = s.freeCount ∧
      (State.withRail s r).resetnLow = s.resetnLow ∧
      (State.withRail s r).supplyLow = s.supplyLow ∧ (State.withRail s r).scan = s.scan ∧
      (State.withRail s r).wpu = s.wpu ∧ (State.withRail s r).fest = s.fest ∧
      (State.withRail s r).dfc = s.dfc ∧ (State.withRail s r).imc = s.imc ∧
      (State.withRail s r).dsc = s.dsc ∧ (State.withRail s r).rpu = s.rpu ∧
      (State.withRail s r).lnk = s.lnk ∧ (State.withRail s r).store = s.store := by
  simp [State.withRail]

@[simp] theorem railBelow_frame (s : State) :
    (railBelow s).pending = s.pending ∧ (railBelow s).now = s.now ∧
      (railBelow s).freeCount = s.freeCount ∧ (railBelow s).resetnLow = s.resetnLow ∧
      (railBelow s).supplyLow = s.supplyLow ∧ (railBelow s).scan = s.scan ∧
      (railBelow s).wpu = s.wpu ∧ (railBelow s).fest = s.fest ∧ (railBelow s).dfc = s.dfc ∧
      (railBelow s).imc = s.imc ∧ (railBelow s).dsc = s.dsc ∧ (railBelow s).rpu = s.rpu ∧
      (railBelow s).lnk = s.lnk ∧ (railBelow s).store = s.store := by
  unfold railBelow
  repeat' split
  all_goals simp

@[simp] theorem railAbove_frame (s : State) :
    (railAbove s).pending = s.pending ∧ (railAbove s).now = s.now ∧
      (railAbove s).freeCount = s.freeCount ∧ (railAbove s).resetnLow = s.resetnLow ∧
      (railAbove s).supplyLow = s.supplyLow ∧ (railAbove s).scan = s.scan ∧
      (railAbove s).wpu = s.wpu ∧ (railAbove s).fest = s.fest ∧ (railAbove s).dfc = s.dfc ∧
      (railAbove s).imc = s.imc ∧ (railAbove s).dsc = s.dsc ∧ (railAbove s).rpu = s.rpu ∧
      (railAbove s).lnk = s.lnk ∧ (railAbove s).store = s.store := by
  unfold railAbove
  repeat' split
  all_goals simp

@[simp] theorem railBack_frame (s : State) :
    (railBack s).pending = s.pending ∧ (railBack s).now = s.now ∧
      (railBack s).freeCount = s.freeCount ∧ (railBack s).resetnLow = s.resetnLow ∧
      (railBack s).supplyLow = s.supplyLow ∧ (railBack s).scan = s.scan ∧
      (railBack s).wpu = s.wpu ∧ (railBack s).fest = s.fest ∧ (railBack s).dfc = s.dfc ∧
      (railBack s).imc = s.imc ∧ (railBack s).dsc = s.dsc ∧ (railBack s).rpu = s.rpu ∧
      (railBack s).lnk = s.lnk ∧ (railBack s).store = s.store := by
  unfold railBack
  repeat' split
  all_goals simp

/-! ### DFC -/

@[simp] theorem changeDefrost_frame (s : State) (d : DefrostState) (c : Option PhaseCause) :
    (changeDefrost s d c).pending = s.pending ∧ (changeDefrost s d c).now = s.now ∧
      (changeDefrost s d c).freeCount = s.freeCount ∧
      (changeDefrost s d c).resetnLow = s.resetnLow ∧
      (changeDefrost s d c).supplyLow = s.supplyLow ∧ (changeDefrost s d c).scan = s.scan ∧
      (changeDefrost s d c).wpu = s.wpu ∧ (changeDefrost s d c).fest = s.fest ∧
      (changeDefrost s d c).imc = s.imc ∧ (changeDefrost s d c).dsc = s.dsc ∧
      (changeDefrost s d c).ldm = s.ldm ∧ (changeDefrost s d c).rpu = s.rpu ∧
      (changeDefrost s d c).lnk = s.lnk ∧ (changeDefrost s d c).store = s.store := by
  simp [changeDefrost]

@[simp] theorem enterHeat_frame (s : State) :
    (enterHeat s).pending = s.pending ∧ (enterHeat s).now = s.now ∧
      (enterHeat s).freeCount = s.freeCount ∧ (enterHeat s).resetnLow = s.resetnLow ∧
      (enterHeat s).supplyLow = s.supplyLow ∧ (enterHeat s).scan = s.scan ∧
      (enterHeat s).wpu = s.wpu ∧ (enterHeat s).fest = s.fest ∧ (enterHeat s).imc = s.imc ∧
      (enterHeat s).dsc = s.dsc ∧ (enterHeat s).ldm = s.ldm ∧ (enterHeat s).rpu = s.rpu ∧
      (enterHeat s).lnk = s.lnk ∧ (enterHeat s).store = s.store := by
  simp [enterHeat]

@[simp] theorem enterPending_frame (s : State) (r : StartReason) (f : Nat) :
    (enterPending s r f).pending = s.pending ∧ (enterPending s r f).now = s.now ∧
      (enterPending s r f).freeCount = s.freeCount ∧
      (enterPending s r f).resetnLow = s.resetnLow ∧
      (enterPending s r f).supplyLow = s.supplyLow ∧ (enterPending s r f).scan = s.scan ∧
      (enterPending s r f).wpu = s.wpu ∧ (enterPending s r f).fest = s.fest ∧
      (enterPending s r f).imc = s.imc ∧ (enterPending s r f).dsc = s.dsc ∧
      (enterPending s r f).ldm = s.ldm ∧ (enterPending s r f).rpu = s.rpu ∧
      (enterPending s r f).lnk = s.lnk ∧ (enterPending s r f).store = s.store := by
  unfold enterPending
  dsimp only
  repeat' split
  all_goals simp

@[simp] theorem takeDefrostRequest_frame (s : State) (r : FestReason) (f : Nat) :
    (takeDefrostRequest s r f).pending = s.pending ∧ (takeDefrostRequest s r f).now = s.now ∧
      (takeDefrostRequest s r f).freeCount = s.freeCount ∧
      (takeDefrostRequest s r f).resetnLow = s.resetnLow ∧
      (takeDefrostRequest s r f).supplyLow = s.supplyLow ∧
      (takeDefrostRequest s r f).scan = s.scan ∧ (takeDefrostRequest s r f).wpu = s.wpu ∧
      (takeDefrostRequest s r f).fest = s.fest ∧ (takeDefrostRequest s r f).imc = s.imc ∧
      (takeDefrostRequest s r f).dsc = s.dsc ∧ (takeDefrostRequest s r f).ldm = s.ldm ∧
      (takeDefrostRequest s r f).rpu = s.rpu ∧ (takeDefrostRequest s r f).lnk = s.lnk ∧
      (takeDefrostRequest s r f).store = s.store := by
  unfold takeDefrostRequest
  repeat' split
  all_goals simp

@[simp] theorem startDefrost_frame (s : State) :
    (startDefrost s).pending = s.pending ∧ (startDefrost s).now = s.now ∧
      (startDefrost s).freeCount = s.freeCount ∧ (startDefrost s).resetnLow = s.resetnLow ∧
      (startDefrost s).supplyLow = s.supplyLow ∧ (startDefrost s).scan = s.scan ∧
      (startDefrost s).wpu = s.wpu ∧ (startDefrost s).fest = s.fest ∧
      (startDefrost s).imc = s.imc ∧ (startDefrost s).dsc = s.dsc ∧
      (startDefrost s).ldm = s.ldm ∧ (startDefrost s).rpu = s.rpu ∧
      (startDefrost s).store = s.store := by
  unfold startDefrost
  repeat' split
  all_goals simp

@[simp] theorem endHeat_frame (s : State) (c : HeatEnd) :
    (endHeat s c).pending = s.pending ∧ (endHeat s c).now = s.now ∧
      (endHeat s c).freeCount = s.freeCount ∧ (endHeat s c).resetnLow = s.resetnLow ∧
      (endHeat s c).supplyLow = s.supplyLow ∧ (endHeat s c).scan = s.scan ∧
      (endHeat s c).wpu = s.wpu ∧ (endHeat s c).fest = s.fest ∧ (endHeat s c).imc = s.imc ∧
      (endHeat s c).dsc = s.dsc ∧ (endHeat s c).rpu = s.rpu ∧ (endHeat s c).lnk = s.lnk ∧
      (endHeat s c).store = s.store := by
  simp [endHeat]

@[simp] theorem takeHeatSecond_frame (s : State) (due : Nat) :
    (takeHeatSecond s due).pending = s.pending ∧ (takeHeatSecond s due).now = s.now ∧
      (takeHeatSecond s due).freeCount = s.freeCount ∧
      (takeHeatSecond s due).resetnLow = s.resetnLow ∧
      (takeHeatSecond s due).supplyLow = s.supplyLow ∧ (takeHeatSecond s due).scan = s.scan ∧
      (takeHeatSecond s due).wpu = s.wpu ∧ (takeHeatSecond s due).fest = s.fest ∧
      (takeHeatSecond s due).imc = s.imc ∧ (takeHeatSecond s due).dsc = s.dsc ∧
      (takeHeatSecond s due).rpu = s.rpu ∧ (takeHeatSecond s due).lnk = s.lnk ∧
      (takeHeatSecond s due).store = s.store := by
  unfold takeHeatSecond
  dsimp only
  repeat' split
  all_goals simp

@[simp] theorem fileRecord_frame (s : State) (r : DefrostRecord) (c : HeatEnd) :
    (fileRecord s r c).pending = s.pending ∧ (fileRecord s r c).now = s.now ∧
      (fileRecord s r c).freeCount = s.freeCount ∧ (fileRecord s r c).resetnLow = s.resetnLow ∧
      (fileRecord s r c).supplyLow = s.supplyLow ∧ (fileRecord s r c).scan = s.scan ∧
      (fileRecord s r c).wpu = s.wpu ∧ (fileRecord s r c).fest = s.fest ∧
      (fileRecord s r c).imc = s.imc ∧ (fileRecord s r c).dsc = s.dsc ∧
      (fileRecord s r c).ldm = s.ldm ∧ (fileRecord s r c).rpu = s.rpu ∧
      (fileRecord s r c).lnk = s.lnk ∧ (fileRecord s r c).store = s.store := by
  unfold fileRecord
  repeat' split
  all_goals simp

@[simp] theorem restartFan.changeDefrostQuiet_frame (s : State) :
    (restartFan.changeDefrostQuiet s).pending = s.pending ∧
      (restartFan.changeDefrostQuiet s).now = s.now ∧
      (restartFan.changeDefrostQuiet s).freeCount = s.freeCount ∧
      (restartFan.changeDefrostQuiet s).resetnLow = s.resetnLow ∧
      (restartFan.changeDefrostQuiet s).supplyLow = s.supplyLow ∧
      (restartFan.changeDefrostQuiet s).scan = s.scan ∧
      (restartFan.changeDefrostQuiet s).wpu = s.wpu ∧
      (restartFan.changeDefrostQuiet s).fest = s.fest ∧
      (restartFan.changeDefrostQuiet s).imc = s.imc ∧
      (restartFan.changeDefrostQuiet s).dsc = s.dsc ∧
      (restartFan.changeDefrostQuiet s).ldm = s.ldm ∧
      (restartFan.changeDefrostQuiet s).rpu = s.rpu ∧
      (restartFan.changeDefrostQuiet s).lnk = s.lnk ∧
      (restartFan.changeDefrostQuiet s).store = s.store := by
  simp [restartFan.changeDefrostQuiet]

@[simp] theorem restartFan_frame (s : State) :
    (restartFan s).pending = s.pending ∧ (restartFan s).now = s.now ∧
      (restartFan s).freeCount = s.freeCount ∧ (restartFan s).resetnLow = s.resetnLow ∧
      (restartFan s).supplyLow = s.supplyLow ∧ (restartFan s).scan = s.scan ∧
      (restartFan s).wpu = s.wpu ∧ (restartFan s).fest = s.fest ∧ (restartFan s).imc = s.imc ∧
      (restartFan s).dsc = s.dsc ∧ (restartFan s).ldm = s.ldm ∧ (restartFan s).rpu = s.rpu ∧
      (restartFan s).lnk = s.lnk ∧ (restartFan s).store = s.store := by
  unfold restartFan
  dsimp only
  repeat' split
  all_goals simp

@[simp] theorem endDrip_frame (s : State) :
    (endDrip s).pending = s.pending ∧ (endDrip s).now = s.now ∧
      (endDrip s).freeCount = s.freeCount ∧ (endDrip s).resetnLow = s.resetnLow ∧
      (endDrip s).supplyLow = s.supplyLow ∧ (endDrip s).scan = s.scan ∧ (endDrip s).wpu = s.wpu ∧
      (endDrip s).fest = s.fest ∧ (endDrip s).imc = s.imc ∧ (endDrip s).dsc = s.dsc ∧
      (endDrip s).ldm = s.ldm ∧ (endDrip s).rpu = s.rpu ∧ (endDrip s).lnk = s.lnk ∧
      (endDrip s).store = s.store := by
  unfold endDrip
  dsimp only
  repeat' split
  all_goals simp

@[simp] theorem evInHeat_frame (s : State) (c : ChannelStatus) (v : Option Temp) :
    (evInHeat s c v).pending = s.pending ∧ (evInHeat s c v).now = s.now ∧
      (evInHeat s c v).freeCount = s.freeCount ∧ (evInHeat s c v).resetnLow = s.resetnLow ∧
      (evInHeat s c v).supplyLow = s.supplyLow ∧ (evInHeat s c v).scan = s.scan ∧
      (evInHeat s c v).wpu = s.wpu ∧ (evInHeat s c v).fest = s.fest ∧
      (evInHeat s c v).imc = s.imc ∧ (evInHeat s c v).dsc = s.dsc ∧
      (evInHeat s c v).rpu = s.rpu ∧ (evInHeat s c v).lnk = s.lnk ∧
      (evInHeat s c v).store = s.store := by
  unfold evInHeat
  dsimp only
  repeat' split
  all_goals simp

@[simp] theorem takeEv_frame (s : State) (c : ChannelStatus) (v : Option Temp) :
    (takeEv s c v).pending = s.pending ∧ (takeEv s c v).now = s.now ∧
      (takeEv s c v).freeCount = s.freeCount ∧ (takeEv s c v).resetnLow = s.resetnLow ∧
      (takeEv s c v).supplyLow = s.supplyLow ∧ (takeEv s c v).scan = s.scan ∧
      (takeEv s c v).wpu = s.wpu ∧ (takeEv s c v).fest = s.fest ∧ (takeEv s c v).imc = s.imc ∧
      (takeEv s c v).dsc = s.dsc ∧ (takeEv s c v).rpu = s.rpu ∧ (takeEv s c v).lnk = s.lnk ∧
      (takeEv s c v).store = s.store := by
  unfold takeEv
  repeat' split
  all_goals simp

@[simp] theorem abortDefrost_frame (s : State) :
    (abortDefrost s).pending = s.pending ∧ (abortDefrost s).now = s.now ∧
      (abortDefrost s).freeCount = s.freeCount ∧ (abortDefrost s).resetnLow = s.resetnLow ∧
      (abortDefrost s).supplyLow = s.supplyLow ∧ (abortDefrost s).scan = s.scan ∧
      (abortDefrost s).wpu = s.wpu ∧ (abortDefrost s).fest = s.fest ∧
      (abortDefrost s).imc = s.imc ∧ (abortDefrost s).dsc = s.dsc ∧
      (abortDefrost s).rpu = s.rpu ∧ (abortDefrost s).store = s.store := by
  unfold abortDefrost
  repeat' split
  all_goals simp

@[simp] theorem readHistory_frame (s : State) (i : Byte) :
    (readHistory s i).pending = s.pending ∧ (readHistory s i).now = s.now ∧
      (readHistory s i).freeCount = s.freeCount ∧ (readHistory s i).resetnLow = s.resetnLow ∧
      (readHistory s i).supplyLow = s.supplyLow ∧ (readHistory s i).scan = s.scan ∧
      (readHistory s i).wpu = s.wpu ∧ (readHistory s i).fest = s.fest ∧
      (readHistory s i).dfc = s.dfc ∧ (readHistory s i).imc = s.imc ∧
      (readHistory s i).dsc = s.dsc ∧ (readHistory s i).ldm = s.ldm ∧
      (readHistory s i).rpu = s.rpu ∧ (readHistory s i).store = s.store := by
  unfold readHistory
  repeat' split
  all_goals simp

/-! ### IMC -/

@[simp] theorem changeIce_frame (s : State) (n : IceState) :
    (changeIce s n).pending = s.pending ∧ (changeIce s n).now = s.now ∧
      (changeIce s n).freeCount = s.freeCount ∧ (changeIce s n).resetnLow = s.resetnLow ∧
      (changeIce s n).supplyLow = s.supplyLow ∧ (changeIce s n).scan = s.scan ∧
      (changeIce s n).wpu = s.wpu ∧ (changeIce s n).fest = s.fest ∧ (changeIce s n).dfc = s.dfc ∧
      (changeIce s n).dsc = s.dsc ∧ (changeIce s n).ldm = s.ldm ∧ (changeIce s n).rpu = s.rpu ∧
      (changeIce s n).lnk = s.lnk ∧ (changeIce s n).store = s.store := by
  simp [changeIce]

@[simp] theorem openBatch_frame (s : State) (b : BatchRecord) :
    (openBatch s b).pending = s.pending ∧ (openBatch s b).now = s.now ∧
      (openBatch s b).freeCount = s.freeCount ∧ (openBatch s b).resetnLow = s.resetnLow ∧
      (openBatch s b).supplyLow = s.supplyLow ∧ (openBatch s b).scan = s.scan ∧
      (openBatch s b).wpu = s.wpu ∧ (openBatch s b).fest = s.fest ∧ (openBatch s b).dfc = s.dfc ∧
      (openBatch s b).dsc = s.dsc ∧ (openBatch s b).ldm = s.ldm ∧ (openBatch s b).rpu = s.rpu ∧
      (openBatch s b).lnk = s.lnk ∧ (openBatch s b).store = s.store := by
  simp [openBatch]

@[simp] theorem onBatch_frame (s : State) (f : BatchRecord → BatchRecord) :
    (onBatch s f).pending = s.pending ∧ (onBatch s f).now = s.now ∧
      (onBatch s f).freeCount = s.freeCount ∧ (onBatch s f).resetnLow = s.resetnLow ∧
      (onBatch s f).supplyLow = s.supplyLow ∧ (onBatch s f).scan = s.scan ∧
      (onBatch s f).wpu = s.wpu ∧ (onBatch s f).fest = s.fest ∧ (onBatch s f).dfc = s.dfc ∧
      (onBatch s f).dsc = s.dsc ∧ (onBatch s f).ldm = s.ldm ∧ (onBatch s f).rpu = s.rpu ∧
      (onBatch s f).lnk = s.lnk ∧ (onBatch s f).store = s.store := by
  simp [onBatch]

@[simp] theorem enterFreezing_frame (s : State) :
    (enterFreezing s).pending = s.pending ∧ (enterFreezing s).now = s.now ∧
      (enterFreezing s).freeCount = s.freeCount ∧ (enterFreezing s).resetnLow = s.resetnLow ∧
      (enterFreezing s).supplyLow = s.supplyLow ∧ (enterFreezing s).scan = s.scan ∧
      (enterFreezing s).wpu = s.wpu ∧ (enterFreezing s).fest = s.fest ∧
      (enterFreezing s).dfc = s.dfc ∧ (enterFreezing s).dsc = s.dsc ∧
      (enterFreezing s).ldm = s.ldm ∧ (enterFreezing s).rpu = s.rpu ∧
      (enterFreezing s).lnk = s.lnk ∧ (enterFreezing s).store = s.store := by
  simp [enterFreezing]

@[simp] theorem enterPark_frame (s : State) :
    (enterPark s).pending = s.pending ∧ (enterPark s).now = s.now ∧
      (enterPark s).freeCount = s.freeCount ∧ (enterPark s).resetnLow = s.resetnLow ∧
      (enterPark s).supplyLow = s.supplyLow ∧ (enterPark s).scan = s.scan ∧
      (enterPark s).wpu = s.wpu ∧ (enterPark s).fest = s.fest ∧ (enterPark s).dfc = s.dfc ∧
      (enterPark s).dsc = s.dsc ∧ (enterPark s).ldm = s.ldm ∧ (enterPark s).rpu = s.rpu ∧
      (enterPark s).lnk = s.lnk ∧ (enterPark s).store = s.store := by
  unfold enterPark
  dsimp only
  repeat' split
  all_goals simp

@[simp] theorem enterHarvestHeat_frame (s : State) :
    (enterHarvestHeat s).pending = s.pending ∧ (enterHarvestHeat s).now = s.now ∧
      (enterHarvestHeat s).freeCount = s.freeCount ∧
      (enterHarvestHeat s).resetnLow = s.resetnLow ∧
      (enterHarvestHeat s).supplyLow = s.supplyLow ∧ (enterHarvestHeat s).scan = s.scan ∧
      (enterHarvestHeat s).wpu = s.wpu ∧ (enterHarvestHeat s).fest = s.fest ∧
      (enterHarvestHeat s).dfc = s.dfc ∧ (enterHarvestHeat s).dsc = s.dsc ∧
      (enterHarvestHeat s).ldm = s.ldm ∧ (enterHarvestHeat s).rpu = s.rpu ∧
      (enterHarvestHeat s).lnk = s.lnk ∧ (enterHarvestHeat s).store = s.store := by
  simp [enterHarvestHeat]

@[simp] theorem enterHarvestRake_frame (s : State) :
    (enterHarvestRake s).pending = s.pending ∧ (enterHarvestRake s).now = s.now ∧
      (enterHarvestRake s).freeCount = s.freeCount ∧
      (enterHarvestRake s).resetnLow = s.resetnLow ∧
      (enterHarvestRake s).supplyLow = s.supplyLow ∧ (enterHarvestRake s).scan = s.scan ∧
      (enterHarvestRake s).wpu = s.wpu ∧ (enterHarvestRake s).fest = s.fest ∧
      (enterHarvestRake s).dfc = s.dfc ∧ (enterHarvestRake s).dsc = s.dsc ∧
      (enterHarvestRake s).ldm = s.ldm ∧ (enterHarvestRake s).rpu = s.rpu ∧
      (enterHarvestRake s).lnk = s.lnk ∧ (enterHarvestRake s).store = s.store := by
  simp [enterHarvestRake]

@[simp] theorem enterOff_frame (s : State) :
    (enterOff s).pending = s.pending ∧ (enterOff s).now = s.now ∧
      (enterOff s).freeCount = s.freeCount ∧ (enterOff s).resetnLow = s.resetnLow ∧
      (enterOff s).supplyLow = s.supplyLow ∧ (enterOff s).scan = s.scan ∧
      (enterOff s).wpu = s.wpu ∧ (enterOff s).fest = s.fest ∧ (enterOff s).dfc = s.dfc ∧
      (enterOff s).dsc = s.dsc ∧ (enterOff s).rpu = s.rpu ∧ (enterOff s).lnk = s.lnk ∧
      (enterOff s).store = s.store := by
  simp [enterOff]

@[simp] theorem requestTube_frame (s : State) :
    (requestTube s).pending = s.pending ∧ (requestTube s).now = s.now ∧
      (requestTube s).freeCount = s.freeCount ∧ (requestTube s).resetnLow = s.resetnLow ∧
      (requestTube s).supplyLow = s.supplyLow ∧ (requestTube s).scan = s.scan ∧
      (requestTube s).wpu = s.wpu ∧ (requestTube s).fest = s.fest ∧ (requestTube s).dfc = s.dfc ∧
      (requestTube s).imc = s.imc ∧ (requestTube s).dsc = s.dsc ∧ (requestTube s).ldm = s.ldm ∧
      (requestTube s).rpu = s.rpu ∧ (requestTube s).lnk = s.lnk ∧ (requestTube s).store = s.store := by
  unfold requestTube
  repeat' split
  all_goals simp

@[simp] theorem beginEnable_frame (s : State) :
    (beginEnable s).pending = s.pending ∧ (beginEnable s).now = s.now ∧
      (beginEnable s).freeCount = s.freeCount ∧ (beginEnable s).resetnLow = s.resetnLow ∧
      (beginEnable s).supplyLow = s.supplyLow ∧ (beginEnable s).scan = s.scan ∧
      (beginEnable s).wpu = s.wpu ∧ (beginEnable s).fest = s.fest ∧ (beginEnable s).dfc = s.dfc ∧
      (beginEnable s).dsc = s.dsc ∧ (beginEnable s).ldm = s.ldm ∧ (beginEnable s).rpu = s.rpu ∧
      (beginEnable s).lnk = s.lnk ∧ (beginEnable s).store = s.store := by
  unfold beginEnable
  dsimp only
  repeat' split
  all_goals simp

@[simp] theorem enableIce_frame (s : State) :
    (enableIce s).pending = s.pending ∧ (enableIce s).now = s.now ∧
      (enableIce s).freeCount = s.freeCount ∧ (enableIce s).resetnLow = s.resetnLow ∧
      (enableIce s).supplyLow = s.supplyLow ∧ (enableIce s).scan = s.scan ∧
      (enableIce s).wpu = s.wpu ∧ (enableIce s).fest = s.fest ∧ (enableIce s).dfc = s.dfc ∧
      (enableIce s).dsc = s.dsc ∧ (enableIce s).ldm = s.ldm ∧ (enableIce s).rpu = s.rpu ∧
      (enableIce s).lnk = s.lnk ∧ (enableIce s).store = s.store := by
  unfold enableIce
  repeat' split
  all_goals simp

@[simp] theorem answerIce_frame (s : State) (k : Byte) (r : Result) :
    (answerIce s k r).pending = s.pending ∧ (answerIce s k r).now = s.now ∧
      (answerIce s k r).freeCount = s.freeCount ∧ (answerIce s k r).resetnLow = s.resetnLow ∧
      (answerIce s k r).supplyLow = s.supplyLow ∧ (answerIce s k r).scan = s.scan ∧
      (answerIce s k r).wpu = s.wpu ∧ (answerIce s k r).fest = s.fest ∧
      (answerIce s k r).dfc = s.dfc ∧ (answerIce s k r).imc = s.imc ∧
      (answerIce s k r).dsc = s.dsc ∧ (answerIce s k r).ldm = s.ldm ∧
      (answerIce s k r).rpu = s.rpu ∧ (answerIce s k r).store = s.store := by
  simp [answerIce]

@[simp] theorem testHarvest_frame (s : State) (c : ChannelStatus) (v : Option Temp) :
    (testHarvest s c v).pending = s.pending ∧ (testHarvest s c v).now = s.now ∧
      (testHarvest s c v).freeCount = s.freeCount ∧ (testHarvest s c v).resetnLow = s.resetnLow ∧
      (testHarvest s c v).supplyLow = s.supplyLow ∧ (testHarvest s c v).scan = s.scan ∧
      (testHarvest s c v).wpu = s.wpu ∧ (testHarvest s c v).fest = s.fest ∧
      (testHarvest s c v).dfc = s.dfc ∧ (testHarvest s c v).dsc = s.dsc ∧
      (testHarvest s c v).ldm = s.ldm ∧ (testHarvest s c v).rpu = s.rpu ∧
      (testHarvest s c v).lnk = s.lnk ∧ (testHarvest s c v).store = s.store := by
  unfold testHarvest
  dsimp only
  repeat' split
  all_goals simp

@[simp] theorem takeCredit_frame (s : State) (due : Nat) :
    (takeCredit s due).pending = s.pending ∧ (takeCredit s due).now = s.now ∧
      (takeCredit s due).freeCount = s.freeCount ∧ (takeCredit s due).resetnLow = s.resetnLow ∧
      (takeCredit s due).supplyLow = s.supplyLow ∧ (takeCredit s due).scan = s.scan ∧
      (takeCredit s due).wpu = s.wpu ∧ (takeCredit s due).fest = s.fest ∧
      (takeCredit s due).dfc = s.dfc ∧ (takeCredit s due).dsc = s.dsc ∧
      (takeCredit s due).ldm = s.ldm ∧ (takeCredit s due).rpu = s.rpu ∧
      (takeCredit s due).lnk = s.lnk ∧ (takeCredit s due).store = s.store := by
  simp [takeCredit]

@[simp] theorem forceHarvest_frame (s : State) :
    (forceHarvest s).pending = s.pending ∧ (forceHarvest s).now = s.now ∧
      (forceHarvest s).freeCount = s.freeCount ∧ (forceHarvest s).resetnLow = s.resetnLow ∧
      (forceHarvest s).supplyLow = s.supplyLow ∧ (forceHarvest s).scan = s.scan ∧
      (forceHarvest s).wpu = s.wpu ∧ (forceHarvest s).fest = s.fest ∧
      (forceHarvest s).dfc = s.dfc ∧ (forceHarvest s).dsc = s.dsc ∧
      (forceHarvest s).ldm = s.ldm ∧ (forceHarvest s).rpu = s.rpu ∧
      (forceHarvest s).store = s.store := by
  unfold forceHarvest
  repeat' split
  all_goals simp

@[simp] theorem endHarvestHeat_frame (s : State) :
    (endHarvestHeat s).pending = s.pending ∧ (endHarvestHeat s).now = s.now ∧
      (endHarvestHeat s).freeCount = s.freeCount ∧ (endHarvestHeat s).resetnLow = s.resetnLow ∧
      (endHarvestHeat s).supplyLow = s.supplyLow ∧ (endHarvestHeat s).scan = s.scan ∧
      (endHarvestHeat s).wpu = s.wpu ∧ (endHarvestHeat s).fest = s.fest ∧
      (endHarvestHeat s).dfc = s.dfc ∧ (endHarvestHeat s).dsc = s.dsc ∧
      (endHarvestHeat s).rpu = s.rpu ∧ (endHarvestHeat s).lnk = s.lnk ∧
      (endHarvestHeat s).store = s.store := by
  simp [endHarvestHeat]

@[simp] theorem imInHarvest_frame (s : State) (c : ChannelStatus) (v : Option Temp) :
    (imInHarvest s c v).pending = s.pending ∧ (imInHarvest s c v).now = s.now ∧
      (imInHarvest s c v).freeCount = s.freeCount ∧ (imInHarvest s c v).resetnLow = s.resetnLow ∧
      (imInHarvest s c v).supplyLow = s.supplyLow ∧ (imInHarvest s c v).scan = s.scan ∧
      (imInHarvest s c v).wpu = s.wpu ∧ (imInHarvest s c v).fest = s.fest ∧
      (imInHarvest s c v).dfc = s.dfc ∧ (imInHarvest s c v).dsc = s.dsc ∧
      (imInHarvest s c v).rpu = s.rpu ∧ (imInHarvest s c v).lnk = s.lnk ∧
      (imInHarvest s c v).store = s.store := by
  unfold imInHarvest
  repeat' split
  all_goals simp

@[simp] theorem takeIm_frame (s : State) (c : ChannelStatus) (v : Option Temp) :
    (takeIm s c v).pending = s.pending ∧ (takeIm s c v).now = s.now ∧
      (takeIm s c v).freeCount = s.freeCount ∧ (takeIm s c v).resetnLow = s.resetnLow ∧
      (takeIm s c v).supplyLow = s.supplyLow ∧ (takeIm s c v).scan = s.scan ∧
      (takeIm s c v).wpu = s.wpu ∧ (takeIm s c v).fest = s.fest ∧ (takeIm s c v).dfc = s.dfc ∧
      (takeIm s c v).dsc = s.dsc ∧ (takeIm s c v).rpu = s.rpu ∧ (takeIm s c v).lnk = s.lnk ∧
      (takeIm s c v).store = s.store := by
  unfold takeIm
  repeat' split
  all_goals simp

@[simp] theorem takeHarvestSecond_frame (s : State) (due : Nat) :
    (takeHarvestSecond s due).pending = s.pending ∧ (takeHarvestSecond s due).now = s.now ∧
      (takeHarvestSecond s due).freeCount = s.freeCount ∧
      (takeHarvestSecond s due).resetnLow = s.resetnLow ∧
      (takeHarvestSecond s due).supplyLow = s.supplyLow ∧
      (takeHarvestSecond s due).scan = s.scan ∧ (takeHarvestSecond s due).wpu = s.wpu ∧
      (takeHarvestSecond s due).fest = s.fest ∧ (takeHarvestSecond s due).dfc = s.dfc ∧
      (takeHarvestSecond s due).dsc = s.dsc ∧ (takeHarvestSecond s due).rpu = s.rpu ∧
      (takeHarvestSecond s due).lnk = s.lnk ∧ (takeHarvestSecond s due).store = s.store := by
  unfold takeHarvestSecond
  dsimp only
  repeat' split
  all_goals simp

@[simp] theorem freezeFill_frame (s : State) (c : FillEnd) :
    (freezeFill s c).pending = s.pending ∧ (freezeFill s c).now = s.now ∧
      (freezeFill s c).freeCount = s.freeCount ∧ (freezeFill s c).resetnLow = s.resetnLow ∧
      (freezeFill s c).supplyLow = s.supplyLow ∧ (freezeFill s c).scan = s.scan ∧
      (freezeFill s c).wpu = s.wpu ∧ (freezeFill s c).fest = s.fest ∧
      (freezeFill s c).dfc = s.dfc ∧ (freezeFill s c).dsc = s.dsc ∧
      (freezeFill s c).ldm = s.ldm ∧ (freezeFill s c).rpu = s.rpu ∧
      (freezeFill s c).lnk = s.lnk ∧ (freezeFill s c).store = s.store := by
  simp [freezeFill]

@[simp] theorem claimFill_frame (s : State) :
    (claimFill s).pending = s.pending ∧ (claimFill s).now = s.now ∧
      (claimFill s).freeCount = s.freeCount ∧ (claimFill s).resetnLow = s.resetnLow ∧
      (claimFill s).supplyLow = s.supplyLow ∧ (claimFill s).scan = s.scan ∧
      (claimFill s).wpu = s.wpu ∧ (claimFill s).fest = s.fest ∧ (claimFill s).dfc = s.dfc ∧
      (claimFill s).dsc = s.dsc ∧ (claimFill s).ldm = s.ldm ∧ (claimFill s).rpu = s.rpu ∧
      (claimFill s).lnk = s.lnk ∧ (claimFill s).store = s.store := by
  simp [claimFill]

@[simp] theorem withdrawFill_frame (s : State) :
    (withdrawFill s).pending = s.pending ∧ (withdrawFill s).now = s.now ∧
      (withdrawFill s).freeCount = s.freeCount ∧ (withdrawFill s).resetnLow = s.resetnLow ∧
      (withdrawFill s).supplyLow = s.supplyLow ∧ (withdrawFill s).scan = s.scan ∧
      (withdrawFill s).wpu = s.wpu ∧ (withdrawFill s).fest = s.fest ∧
      (withdrawFill s).dfc = s.dfc ∧ (withdrawFill s).dsc = s.dsc ∧
      (withdrawFill s).ldm = s.ldm ∧ (withdrawFill s).rpu = s.rpu ∧
      (withdrawFill s).lnk = s.lnk ∧ (withdrawFill s).store = s.store := by
  simp [withdrawFill]

@[simp] theorem decideFill_frame (s : State) (c : ChannelStatus) (v : Option Temp) :
    (decideFill s c v).pending = s.pending ∧ (decideFill s c v).now = s.now ∧
      (decideFill s c v).freeCount = s.freeCount ∧ (decideFill s c v).resetnLow = s.resetnLow ∧
      (decideFill s c v).supplyLow = s.supplyLow ∧ (decideFill s c v).scan = s.scan ∧
      (decideFill s c v).wpu = s.wpu ∧ (decideFill s c v).fest = s.fest ∧
      (decideFill s c v).dfc = s.dfc ∧ (decideFill s c v).dsc = s.dsc ∧
      (decideFill s c v).ldm = s.ldm ∧ (decideFill s c v).rpu = s.rpu ∧
      (decideFill s c v).lnk = s.lnk ∧ (decideFill s c v).store = s.store := by
  unfold decideFill
  repeat' split
  all_goals simp

@[simp] theorem decideFillNow_frame (s : State) :
    (decideFillNow s).pending = s.pending ∧ (decideFillNow s).now = s.now ∧
      (decideFillNow s).freeCount = s.freeCount ∧ (decideFillNow s).resetnLow = s.resetnLow ∧
      (decideFillNow s).supplyLow = s.supplyLow ∧ (decideFillNow s).scan = s.scan ∧
      (decideFillNow s).wpu = s.wpu ∧ (decideFillNow s).fest = s.fest ∧
      (decideFillNow s).dfc = s.dfc ∧ (decideFillNow s).dsc = s.dsc ∧
      (decideFillNow s).ldm = s.ldm ∧ (decideFillNow s).rpu = s.rpu ∧
      (decideFillNow s).lnk = s.lnk ∧ (decideFillNow s).store = s.store := by
  simp [decideFillNow]

@[simp] theorem enterFillWait_frame (s : State) :
    (enterFillWait s).pending = s.pending ∧ (enterFillWait s).now = s.now ∧
      (enterFillWait s).freeCount = s.freeCount ∧ (enterFillWait s).resetnLow = s.resetnLow ∧
      (enterFillWait s).supplyLow = s.supplyLow ∧ (enterFillWait s).scan = s.scan ∧
      (enterFillWait s).wpu = s.wpu ∧ (enterFillWait s).fest = s.fest ∧
      (enterFillWait s).dfc = s.dfc ∧ (enterFillWait s).dsc = s.dsc ∧
      (enterFillWait s).ldm = s.ldm ∧ (enterFillWait s).rpu = s.rpu ∧
      (enterFillWait s).lnk = s.lnk ∧ (enterFillWait s).store = s.store := by
  simp [enterFillWait]

@[simp] theorem pauseFill_frame (s : State) :
    (pauseFill s).pending = s.pending ∧ (pauseFill s).now = s.now ∧
      (pauseFill s).freeCount = s.freeCount ∧ (pauseFill s).resetnLow = s.resetnLow ∧
      (pauseFill s).supplyLow = s.supplyLow ∧ (pauseFill s).scan = s.scan ∧
      (pauseFill s).wpu = s.wpu ∧ (pauseFill s).fest = s.fest ∧ (pauseFill s).dfc = s.dfc ∧
      (pauseFill s).dsc = s.dsc ∧ (pauseFill s).ldm = s.ldm ∧ (pauseFill s).rpu = s.rpu ∧
      (pauseFill s).lnk = s.lnk ∧ (pauseFill s).store = s.store := by
  simp [pauseFill]

@[simp] theorem completeSweep_frame (s : State) :
    (completeSweep s).pending = s.pending ∧ (completeSweep s).now = s.now ∧
      (completeSweep s).freeCount = s.freeCount ∧ (completeSweep s).resetnLow = s.resetnLow ∧
      (completeSweep s).supplyLow = s.supplyLow ∧ (completeSweep s).scan = s.scan ∧
      (completeSweep s).wpu = s.wpu ∧ (completeSweep s).fest = s.fest ∧
      (completeSweep s).dfc = s.dfc ∧ (completeSweep s).dsc = s.dsc ∧
      (completeSweep s).rpu = s.rpu ∧ (completeSweep s).lnk = s.lnk ∧
      (completeSweep s).store = s.store := by
  unfold completeSweep
  dsimp only
  repeat' split
  all_goals simp

@[simp] theorem completePark_frame (s : State) :
    (completePark s).pending = s.pending ∧ (completePark s).now = s.now ∧
      (completePark s).freeCount = s.freeCount ∧ (completePark s).resetnLow = s.resetnLow ∧
      (completePark s).supplyLow = s.supplyLow ∧ (completePark s).scan = s.scan ∧
      (completePark s).wpu = s.wpu ∧ (completePark s).fest = s.fest ∧
      (completePark s).dfc = s.dfc ∧ (completePark s).dsc = s.dsc ∧
      (completePark s).rpu = s.rpu ∧ (completePark s).lnk = s.lnk ∧
      (completePark s).store = s.store := by
  simp [completePark]

@[simp] theorem takeRakeHome_frame (s : State) (b : Bool) :
    (takeRakeHome s b).pending = s.pending ∧ (takeRakeHome s b).now = s.now ∧
      (takeRakeHome s b).freeCount = s.freeCount ∧ (takeRakeHome s b).resetnLow = s.resetnLow ∧
      (takeRakeHome s b).supplyLow = s.supplyLow ∧ (takeRakeHome s b).scan = s.scan ∧
      (takeRakeHome s b).wpu = s.wpu ∧ (takeRakeHome s b).fest = s.fest ∧
      (takeRakeHome s b).dfc = s.dfc ∧ (takeRakeHome s b).dsc = s.dsc ∧
      (takeRakeHome s b).rpu = s.rpu ∧ (takeRakeHome s b).lnk = s.lnk ∧
      (takeRakeHome s b).store = s.store := by
  unfold takeRakeHome
  repeat' split
  all_goals simp

@[simp] theorem failRake_frame (s : State) (r : RakeState) :
    (failRake s r).pending = s.pending ∧ (failRake s r).now = s.now ∧
      (failRake s r).freeCount = s.freeCount ∧ (failRake s r).resetnLow = s.resetnLow ∧
      (failRake s r).supplyLow = s.supplyLow ∧ (failRake s r).scan = s.scan ∧
      (failRake s r).wpu = s.wpu ∧ (failRake s r).fest = s.fest ∧ (failRake s r).dfc = s.dfc ∧
      (failRake s r).dsc = s.dsc ∧ (failRake s r).rpu = s.rpu ∧ (failRake s r).lnk = s.lnk ∧
      (failRake s r).store = s.store := by
  unfold failRake
  dsimp only
  repeat' split
  all_goals simp

@[simp] theorem takeRakeSecond_frame (s : State) (due : Nat) :
    (takeRakeSecond s due).pending = s.pending ∧ (takeRakeSecond s due).now = s.now ∧
      (takeRakeSecond s due).freeCount = s.freeCount ∧
      (takeRakeSecond s due).resetnLow = s.resetnLow ∧
      (takeRakeSecond s due).supplyLow = s.supplyLow ∧ (takeRakeSecond s due).scan = s.scan ∧
      (takeRakeSecond s due).wpu = s.wpu ∧ (takeRakeSecond s due).fest = s.fest ∧
      (takeRakeSecond s due).dfc = s.dfc ∧ (takeRakeSecond s due).dsc = s.dsc ∧
      (takeRakeSecond s due).rpu = s.rpu ∧ (takeRakeSecond s due).lnk = s.lnk ∧
      (takeRakeSecond s due).store = s.store := by
  unfold takeRakeSecond
  dsimp only
  repeat' split
  all_goals simp

@[simp] theorem retryRake_frame (s : State) :
    (retryRake s).pending = s.pending ∧ (retryRake s).now = s.now ∧
      (retryRake s).freeCount = s.freeCount ∧ (retryRake s).resetnLow = s.resetnLow ∧
      (retryRake s).supplyLow = s.supplyLow ∧ (retryRake s).scan = s.scan ∧
      (retryRake s).wpu = s.wpu ∧ (retryRake s).fest = s.fest ∧ (retryRake s).dfc = s.dfc ∧
      (retryRake s).dsc = s.dsc ∧ (retryRake s).ldm = s.ldm ∧ (retryRake s).rpu = s.rpu ∧
      (retryRake s).lnk = s.lnk ∧ (retryRake s).store = s.store := by
  unfold retryRake
  dsimp only
  repeat' split
  all_goals simp

@[simp] theorem enterFilling_frame (s : State) (t : Option Nat) :
    (enterFilling s t).pending = s.pending ∧ (enterFilling s t).now = s.now ∧
      (enterFilling s t).freeCount = s.freeCount ∧ (enterFilling s t).resetnLow = s.resetnLow ∧
      (enterFilling s t).supplyLow = s.supplyLow ∧ (enterFilling s t).scan = s.scan ∧
      (enterFilling s t).wpu = s.wpu ∧ (enterFilling s t).fest = s.fest ∧
      (enterFilling s t).dfc = s.dfc ∧ (enterFilling s t).dsc = s.dsc ∧
      (enterFilling s t).ldm = s.ldm ∧ (enterFilling s t).rpu = s.rpu ∧
      (enterFilling s t).lnk = s.lnk ∧ (enterFilling s t).store = s.store := by
  simp [enterFilling]

@[simp] theorem takeGrant_frame (s : State) (t : Option Nat) :
    (takeGrant s t).pending = s.pending ∧ (takeGrant s t).now = s.now ∧
      (takeGrant s t).freeCount = s.freeCount ∧ (takeGrant s t).resetnLow = s.resetnLow ∧
      (takeGrant s t).supplyLow = s.supplyLow ∧ (takeGrant s t).scan = s.scan ∧
      (takeGrant s t).wpu = s.wpu ∧ (takeGrant s t).fest = s.fest ∧ (takeGrant s t).dfc = s.dfc ∧
      (takeGrant s t).dsc = s.dsc ∧ (takeGrant s t).ldm = s.ldm ∧ (takeGrant s t).rpu = s.rpu ∧
      (takeGrant s t).lnk = s.lnk ∧ (takeGrant s t).store = s.store := by
  unfold takeGrant
  repeat' split
  all_goals simp

@[simp] theorem takeFillSecond_frame (s : State) (due : Nat) :
    (takeFillSecond s due).pending = s.pending ∧ (takeFillSecond s due).now = s.now ∧
      (takeFillSecond s due).freeCount = s.freeCount ∧
      (takeFillSecond s due).resetnLow = s.resetnLow ∧
      (takeFillSecond s due).supplyLow = s.supplyLow ∧ (takeFillSecond s due).scan = s.scan ∧
      (takeFillSecond s due).wpu = s.wpu ∧ (takeFillSecond s due).fest = s.fest ∧
      (takeFillSecond s due).dfc = s.dfc ∧ (takeFillSecond s due).dsc = s.dsc ∧
      (takeFillSecond s due).ldm = s.ldm ∧ (takeFillSecond s due).rpu = s.rpu ∧
      (takeFillSecond s due).lnk = s.lnk ∧ (takeFillSecond s due).store = s.store := by
  unfold takeFillSecond
  dsimp only
  repeat' split
  all_goals simp

@[simp] theorem takeClosed_frame (s : State) (c : CloseCause) :
    (takeClosed s c).pending = s.pending ∧ (takeClosed s c).now = s.now ∧
      (takeClosed s c).freeCount = s.freeCount ∧ (takeClosed s c).resetnLow = s.resetnLow ∧
      (takeClosed s c).supplyLow = s.supplyLow ∧ (takeClosed s c).scan = s.scan ∧
      (takeClosed s c).wpu = s.wpu ∧ (takeClosed s c).fest = s.fest ∧
      (takeClosed s c).dfc = s.dfc ∧ (takeClosed s c).dsc = s.dsc ∧
      (takeClosed s c).ldm = s.ldm ∧ (takeClosed s c).rpu = s.rpu ∧
      (takeClosed s c).lnk = s.lnk ∧ (takeClosed s c).store = s.store := by
  unfold takeClosed
  repeat' split
  all_goals simp

@[simp] theorem abandonFill_frame (s : State) (n : Nat) :
    (abandonFill s n).pending = s.pending ∧ (abandonFill s n).now = s.now ∧
      (abandonFill s n).freeCount = s.freeCount ∧ (abandonFill s n).resetnLow = s.resetnLow ∧
      (abandonFill s n).supplyLow = s.supplyLow ∧ (abandonFill s n).scan = s.scan ∧
      (abandonFill s n).wpu = s.wpu ∧ (abandonFill s n).fest = s.fest ∧
      (abandonFill s n).dfc = s.dfc ∧ (abandonFill s n).dsc = s.dsc ∧
      (abandonFill s n).ldm = s.ldm ∧ (abandonFill s n).rpu = s.rpu ∧
      (abandonFill s n).lnk = s.lnk ∧ (abandonFill s n).store = s.store := by
  simp [abandonFill]

@[simp] theorem endShortFill_frame (s : State) (c : FillEnd) :
    (endShortFill s c).pending = s.pending ∧ (endShortFill s c).now = s.now ∧
      (endShortFill s c).freeCount = s.freeCount ∧ (endShortFill s c).resetnLow = s.resetnLow ∧
      (endShortFill s c).supplyLow = s.supplyLow ∧ (endShortFill s c).scan = s.scan ∧
      (endShortFill s c).wpu = s.wpu ∧ (endShortFill s c).fest = s.fest ∧
      (endShortFill s c).dfc = s.dfc ∧ (endShortFill s c).dsc = s.dsc ∧
      (endShortFill s c).ldm = s.ldm ∧ (endShortFill s c).rpu = s.rpu ∧
      (endShortFill s c).lnk = s.lnk ∧ (endShortFill s c).store = s.store := by
  unfold endShortFill
  dsimp only
  repeat' split
  all_goals simp

@[simp] theorem settleFilling_frame (s : State) (c : CloseCause) :
    (settleFilling s c).pending = s.pending ∧ (settleFilling s c).now = s.now ∧
      (settleFilling s c).freeCount = s.freeCount ∧ (settleFilling s c).resetnLow = s.resetnLow ∧
      (settleFilling s c).supplyLow = s.supplyLow ∧ (settleFilling s c).scan = s.scan ∧
      (settleFilling s c).wpu = s.wpu ∧ (settleFilling s c).fest = s.fest ∧
      (settleFilling s c).dfc = s.dfc ∧ (settleFilling s c).dsc = s.dsc ∧
      (settleFilling s c).ldm = s.ldm ∧ (settleFilling s c).rpu = s.rpu ∧
      (settleFilling s c).lnk = s.lnk ∧ (settleFilling s c).store = s.store := by
  unfold settleFilling
  repeat' split
  all_goals simp

@[simp] theorem settlePaused_frame (s : State) :
    (settlePaused s).pending = s.pending ∧ (settlePaused s).now = s.now ∧
      (settlePaused s).freeCount = s.freeCount ∧ (settlePaused s).resetnLow = s.resetnLow ∧
      (settlePaused s).supplyLow = s.supplyLow ∧ (settlePaused s).scan = s.scan ∧
      (settlePaused s).wpu = s.wpu ∧ (settlePaused s).fest = s.fest ∧
      (settlePaused s).dfc = s.dfc ∧ (settlePaused s).dsc = s.dsc ∧
      (settlePaused s).ldm = s.ldm ∧ (settlePaused s).rpu = s.rpu ∧
      (settlePaused s).lnk = s.lnk ∧ (settlePaused s).store = s.store := by
  unfold settlePaused
  repeat' split
  all_goals simp

@[simp] theorem takeSettled_frame (s : State) (c : CloseCause) :
    (takeSettled s c).pending = s.pending ∧ (takeSettled s c).now = s.now ∧
      (takeSettled s c).freeCount = s.freeCount ∧ (takeSettled s c).resetnLow = s.resetnLow ∧
      (takeSettled s c).supplyLow = s.supplyLow ∧ (takeSettled s c).scan = s.scan ∧
      (takeSettled s c).wpu = s.wpu ∧ (takeSettled s c).fest = s.fest ∧
      (takeSettled s c).dfc = s.dfc ∧ (takeSettled s c).dsc = s.dsc ∧
      (takeSettled s c).ldm = s.ldm ∧ (takeSettled s c).rpu = s.rpu ∧
      (takeSettled s c).lnk = s.lnk ∧ (takeSettled s c).store = s.store := by
  unfold takeSettled
  repeat' split
  all_goals simp

@[simp] theorem disableFill_frame (s : State) :
    (disableFill s).pending = s.pending ∧ (disableFill s).now = s.now ∧
      (disableFill s).freeCount = s.freeCount ∧ (disableFill s).resetnLow = s.resetnLow ∧
      (disableFill s).supplyLow = s.supplyLow ∧ (disableFill s).scan = s.scan ∧
      (disableFill s).wpu = s.wpu ∧ (disableFill s).fest = s.fest ∧ (disableFill s).dfc = s.dfc ∧
      (disableFill s).dsc = s.dsc ∧ (disableFill s).ldm = s.ldm ∧ (disableFill s).rpu = s.rpu ∧
      (disableFill s).lnk = s.lnk ∧ (disableFill s).store = s.store := by
  simp [disableFill]

@[simp] theorem withdrawIfWaiting_frame (s : State) :
    (withdrawIfWaiting s).pending = s.pending ∧ (withdrawIfWaiting s).now = s.now ∧
      (withdrawIfWaiting s).freeCount = s.freeCount ∧
      (withdrawIfWaiting s).resetnLow = s.resetnLow ∧
      (withdrawIfWaiting s).supplyLow = s.supplyLow ∧ (withdrawIfWaiting s).scan = s.scan ∧
      (withdrawIfWaiting s).wpu = s.wpu ∧ (withdrawIfWaiting s).fest = s.fest ∧
      (withdrawIfWaiting s).dfc = s.dfc ∧ (withdrawIfWaiting s).dsc = s.dsc ∧
      (withdrawIfWaiting s).ldm = s.ldm ∧ (withdrawIfWaiting s).rpu = s.rpu ∧
      (withdrawIfWaiting s).lnk = s.lnk ∧ (withdrawIfWaiting s).store = s.store := by
  unfold withdrawIfWaiting
  repeat' split
  all_goals simp

@[simp] theorem disableIce_frame (s : State) :
    (disableIce s).pending = s.pending ∧ (disableIce s).now = s.now ∧
      (disableIce s).freeCount = s.freeCount ∧ (disableIce s).resetnLow = s.resetnLow ∧
      (disableIce s).supplyLow = s.supplyLow ∧ (disableIce s).scan = s.scan ∧
      (disableIce s).wpu = s.wpu ∧ (disableIce s).fest = s.fest ∧ (disableIce s).dfc = s.dfc ∧
      (disableIce s).dsc = s.dsc ∧ (disableIce s).rpu = s.rpu ∧ (disableIce s).lnk = s.lnk ∧
      (disableIce s).store = s.store := by
  unfold disableIce
  repeat' split
  all_goals simp

/-! ### DSC -/

@[simp] theorem State.withQueue_frame (s : State) (q : List Entry) :
    (State.withQueue s q).pending = s.pending ∧ (State.withQueue s q).now = s.now ∧
      (State.withQueue s q).freeCount = s.freeCount ∧
      (State.withQueue s q).resetnLow = s.resetnLow ∧
      (State.withQueue s q).supplyLow = s.supplyLow ∧ (State.withQueue s q).scan = s.scan ∧
      (State.withQueue s q).wpu = s.wpu ∧ (State.withQueue s q).fest = s.fest ∧
      (State.withQueue s q).dfc = s.dfc ∧ (State.withQueue s q).imc = s.imc ∧
      (State.withQueue s q).ldm = s.ldm ∧ (State.withQueue s q).rpu = s.rpu ∧
      (State.withQueue s q).lnk = s.lnk ∧ (State.withQueue s q).store = s.store := by
  simp [State.withQueue]

@[simp] theorem State.withView_frame (s : State) (v : ClaimView) :
    (State.withView s v).pending = s.pending ∧ (State.withView s v).now = s.now ∧
      (State.withView s v).freeCount = s.freeCount ∧
      (State.withView s v).resetnLow = s.resetnLow ∧
      (State.withView s v).supplyLow = s.supplyLow ∧ (State.withView s v).scan = s.scan ∧
      (State.withView s v).wpu = s.wpu ∧ (State.withView s v).fest = s.fest ∧
      (State.withView s v).dfc = s.dfc ∧ (State.withView s v).imc = s.imc ∧
      (State.withView s v).ldm = s.ldm ∧ (State.withView s v).rpu = s.rpu ∧
      (State.withView s v).lnk = s.lnk ∧ (State.withView s v).store = s.store := by
  simp [State.withView]

@[simp] theorem State.withPaddle_frame (s : State) (a : Bool) :
    (s.withPaddle a).pending = s.pending ∧ (s.withPaddle a).now = s.now ∧
      (s.withPaddle a).freeCount = s.freeCount ∧ (s.withPaddle a).resetnLow = s.resetnLow ∧
      (s.withPaddle a).supplyLow = s.supplyLow ∧ (s.withPaddle a).scan = s.scan ∧
      (s.withPaddle a).wpu = s.wpu ∧ (s.withPaddle a).fest = s.fest ∧
      (s.withPaddle a).dfc = s.dfc ∧ (s.withPaddle a).imc = s.imc ∧
      (s.withPaddle a).ldm = s.ldm ∧ (s.withPaddle a).rpu = s.rpu ∧
      (s.withPaddle a).lnk = s.lnk ∧ (s.withPaddle a).store = s.store := by
  simp [State.withPaddle]

@[simp] theorem completeHead_frame (s : State) (e : Entry) (c : Completion) :
    (completeHead s e c).pending = s.pending ∧ (completeHead s e c).now = s.now ∧
      (completeHead s e c).freeCount = s.freeCount ∧
      (completeHead s e c).resetnLow = s.resetnLow ∧
      (completeHead s e c).supplyLow = s.supplyLow ∧ (completeHead s e c).scan = s.scan ∧
      (completeHead s e c).wpu = s.wpu ∧ (completeHead s e c).fest = s.fest ∧
      (completeHead s e c).dfc = s.dfc ∧ (completeHead s e c).imc = s.imc ∧
      (completeHead s e c).ldm = s.ldm ∧ (completeHead s e c).rpu = s.rpu ∧
      (completeHead s e c).lnk = s.lnk ∧ (completeHead s e c).store = s.store := by
  simp [completeHead]

@[simp] theorem claimDispense_frame (s : State) (e : Entry) :
    (claimDispense s e).pending = s.pending ∧ (claimDispense s e).now = s.now ∧
      (claimDispense s e).freeCount = s.freeCount ∧ (claimDispense s e).resetnLow = s.resetnLow ∧
      (claimDispense s e).supplyLow = s.supplyLow ∧ (claimDispense s e).scan = s.scan ∧
      (claimDispense s e).wpu = s.wpu ∧ (claimDispense s e).fest = s.fest ∧
      (claimDispense s e).dfc = s.dfc ∧ (claimDispense s e).imc = s.imc ∧
      (claimDispense s e).ldm = s.ldm ∧ (claimDispense s e).rpu = s.rpu ∧
      (claimDispense s e).lnk = s.lnk ∧ (claimDispense s e).store = s.store := by
  simp [claimDispense]

@[simp] theorem testActivation_frame (s : State) :
    (testActivation s).pending = s.pending ∧ (testActivation s).now = s.now ∧
      (testActivation s).freeCount = s.freeCount ∧ (testActivation s).resetnLow = s.resetnLow ∧
      (testActivation s).supplyLow = s.supplyLow ∧ (testActivation s).scan = s.scan ∧
      (testActivation s).wpu = s.wpu ∧ (testActivation s).fest = s.fest ∧
      (testActivation s).dfc = s.dfc ∧ (testActivation s).imc = s.imc ∧
      (testActivation s).ldm = s.ldm ∧ (testActivation s).rpu = s.rpu ∧
      (testActivation s).lnk = s.lnk ∧ (testActivation s).store = s.store := by
  unfold testActivation
  repeat' split
  all_goals simp

@[simp] theorem stopFlow_frame (s : State) (c : Completion) :
    (stopFlow s c).pending = s.pending ∧ (stopFlow s c).now = s.now ∧
      (stopFlow s c).freeCount = s.freeCount ∧ (stopFlow s c).resetnLow = s.resetnLow ∧
      (stopFlow s c).supplyLow = s.supplyLow ∧ (stopFlow s c).scan = s.scan ∧
      (stopFlow s c).wpu = s.wpu ∧ (stopFlow s c).fest = s.fest ∧ (stopFlow s c).dfc = s.dfc ∧
      (stopFlow s c).imc = s.imc ∧ (stopFlow s c).ldm = s.ldm ∧ (stopFlow s c).rpu = s.rpu ∧
      (stopFlow s c).lnk = s.lnk ∧ (stopFlow s c).store = s.store := by
  simp [stopFlow]

@[simp] theorem restop_frame (s : State) (c : Completion) :
    (restop s c).pending = s.pending ∧ (restop s c).now = s.now ∧
      (restop s c).freeCount = s.freeCount ∧ (restop s c).resetnLow = s.resetnLow ∧
      (restop s c).supplyLow = s.supplyLow ∧ (restop s c).scan = s.scan ∧
      (restop s c).wpu = s.wpu ∧ (restop s c).fest = s.fest ∧ (restop s c).dfc = s.dfc ∧
      (restop s c).imc = s.imc ∧ (restop s c).ldm = s.ldm ∧ (restop s c).rpu = s.rpu ∧
      (restop s c).lnk = s.lnk ∧ (restop s c).store = s.store := by
  unfold restop
  repeat' split
  all_goals simp

@[simp] theorem stopEntry_frame (s : State) (e : Entry) (c : Completion) :
    (stopEntry s e c).pending = s.pending ∧ (stopEntry s e c).now = s.now ∧
      (stopEntry s e c).freeCount = s.freeCount ∧ (stopEntry s e c).resetnLow = s.resetnLow ∧
      (stopEntry s e c).supplyLow = s.supplyLow ∧ (stopEntry s e c).scan = s.scan ∧
      (stopEntry s e c).wpu = s.wpu ∧ (stopEntry s e c).fest = s.fest ∧
      (stopEntry s e c).dfc = s.dfc ∧ (stopEntry s e c).imc = s.imc ∧
      (stopEntry s e c).ldm = s.ldm ∧ (stopEntry s e c).rpu = s.rpu ∧
      (stopEntry s e c).lnk = s.lnk ∧ (stopEntry s e c).store = s.store := by
  unfold stopEntry
  repeat' split
  all_goals simp

@[simp] theorem dispensePortion_frame (s : State) (t : Byte) (v : BitVec 16) (o : Byte) :
    (dispensePortion s t v o).pending = s.pending ∧ (dispensePortion s t v o).now = s.now ∧
      (dispensePortion s t v o).freeCount = s.freeCount ∧
      (dispensePortion s t v o).resetnLow = s.resetnLow ∧
      (dispensePortion s t v o).supplyLow = s.supplyLow ∧
      (dispensePortion s t v o).scan = s.scan ∧ (dispensePortion s t v o).wpu = s.wpu ∧
      (dispensePortion s t v o).fest = s.fest ∧ (dispensePortion s t v o).dfc = s.dfc ∧
      (dispensePortion s t v o).imc = s.imc ∧ (dispensePortion s t v o).ldm = s.ldm ∧
      (dispensePortion s t v o).rpu = s.rpu ∧ (dispensePortion s t v o).store = s.store := by
  unfold dispensePortion
  repeat' split
  all_goals simp

@[simp] theorem takeDispGrant_frame (s : State) :
    (takeDispGrant s).pending = s.pending ∧ (takeDispGrant s).now = s.now ∧
      (takeDispGrant s).freeCount = s.freeCount ∧ (takeDispGrant s).resetnLow = s.resetnLow ∧
      (takeDispGrant s).supplyLow = s.supplyLow ∧ (takeDispGrant s).scan = s.scan ∧
      (takeDispGrant s).wpu = s.wpu ∧ (takeDispGrant s).fest = s.fest ∧
      (takeDispGrant s).dfc = s.dfc ∧ (takeDispGrant s).imc = s.imc ∧
      (takeDispGrant s).ldm = s.ldm ∧ (takeDispGrant s).rpu = s.rpu ∧
      (takeDispGrant s).lnk = s.lnk ∧ (takeDispGrant s).store = s.store := by
  unfold takeDispGrant
  repeat' split
  all_goals simp

@[simp] theorem takeDispClosed_frame (s : State) :
    (takeDispClosed s).pending = s.pending ∧ (takeDispClosed s).now = s.now ∧
      (takeDispClosed s).freeCount = s.freeCount ∧ (takeDispClosed s).resetnLow = s.resetnLow ∧
      (takeDispClosed s).supplyLow = s.supplyLow ∧ (takeDispClosed s).scan = s.scan ∧
      (takeDispClosed s).wpu = s.wpu ∧ (takeDispClosed s).fest = s.fest ∧
      (takeDispClosed s).dfc = s.dfc ∧ (takeDispClosed s).imc = s.imc ∧
      (takeDispClosed s).ldm = s.ldm ∧ (takeDispClosed s).rpu = s.rpu ∧
      (takeDispClosed s).lnk = s.lnk ∧ (takeDispClosed s).store = s.store := by
  unfold takeDispClosed
  repeat' split
  all_goals simp

@[simp] theorem takeDispSettled_frame (s : State) (c : CloseCause) :
    (takeDispSettled s c).pending = s.pending ∧ (takeDispSettled s c).now = s.now ∧
      (takeDispSettled s c).resetnLow = s.resetnLow ∧
      (takeDispSettled s c).supplyLow = s.supplyLow ∧ (takeDispSettled s c).scan = s.scan ∧
      (takeDispSettled s c).wpu = s.wpu ∧ (takeDispSettled s c).fest = s.fest ∧
      (takeDispSettled s c).dfc = s.dfc ∧ (takeDispSettled s c).imc = s.imc ∧
      (takeDispSettled s c).ldm = s.ldm ∧ (takeDispSettled s c).rpu = s.rpu ∧
      (takeDispSettled s c).lnk = s.lnk ∧ (takeDispSettled s c).store = s.store := by
  unfold takeDispSettled
  dsimp only
  repeat' split
  all_goals simp

@[simp] theorem takeDispMillilitre_frame (s : State) :
    (takeDispMillilitre s).pending = s.pending ∧ (takeDispMillilitre s).now = s.now ∧
      (takeDispMillilitre s).freeCount = s.freeCount ∧
      (takeDispMillilitre s).resetnLow = s.resetnLow ∧
      (takeDispMillilitre s).supplyLow = s.supplyLow ∧ (takeDispMillilitre s).scan = s.scan ∧
      (takeDispMillilitre s).wpu = s.wpu ∧ (takeDispMillilitre s).fest = s.fest ∧
      (takeDispMillilitre s).dfc = s.dfc ∧ (takeDispMillilitre s).imc = s.imc ∧
      (takeDispMillilitre s).ldm = s.ldm ∧ (takeDispMillilitre s).rpu = s.rpu ∧
      (takeDispMillilitre s).lnk = s.lnk ∧ (takeDispMillilitre s).store = s.store := by
  unfold takeDispMillilitre
  dsimp only
  repeat' split
  all_goals simp

@[simp] theorem takeFlowSecond_frame (s : State) (due : Nat) :
    (takeFlowSecond s due).pending = s.pending ∧ (takeFlowSecond s due).now = s.now ∧
      (takeFlowSecond s due).freeCount = s.freeCount ∧
      (takeFlowSecond s due).resetnLow = s.resetnLow ∧
      (takeFlowSecond s due).supplyLow = s.supplyLow ∧ (takeFlowSecond s due).scan = s.scan ∧
      (takeFlowSecond s due).wpu = s.wpu ∧ (takeFlowSecond s due).fest = s.fest ∧
      (takeFlowSecond s due).dfc = s.dfc ∧ (takeFlowSecond s due).imc = s.imc ∧
      (takeFlowSecond s due).ldm = s.ldm ∧ (takeFlowSecond s due).rpu = s.rpu ∧
      (takeFlowSecond s due).lnk = s.lnk ∧ (takeFlowSecond s due).store = s.store := by
  unfold takeFlowSecond
  dsimp only
  repeat' split
  all_goals simp

@[simp] theorem removeQueued_frame (s : State) (e : Entry) :
    (removeQueued s e).pending = s.pending ∧ (removeQueued s e).now = s.now ∧
      (removeQueued s e).freeCount = s.freeCount ∧ (removeQueued s e).resetnLow = s.resetnLow ∧
      (removeQueued s e).supplyLow = s.supplyLow ∧ (removeQueued s e).scan = s.scan ∧
      (removeQueued s e).wpu = s.wpu ∧ (removeQueued s e).fest = s.fest ∧
      (removeQueued s e).dfc = s.dfc ∧ (removeQueued s e).imc = s.imc ∧
      (removeQueued s e).ldm = s.ldm ∧ (removeQueued s e).rpu = s.rpu ∧
      (removeQueued s e).lnk = s.lnk ∧ (removeQueued s e).store = s.store := by
  simp [removeQueued]

@[simp] theorem dispenseCancel_frame (s : State) (t : Byte) :
    (dispenseCancel s t).pending = s.pending ∧ (dispenseCancel s t).now = s.now ∧
      (dispenseCancel s t).freeCount = s.freeCount ∧
      (dispenseCancel s t).resetnLow = s.resetnLow ∧
      (dispenseCancel s t).supplyLow = s.supplyLow ∧ (dispenseCancel s t).scan = s.scan ∧
      (dispenseCancel s t).wpu = s.wpu ∧ (dispenseCancel s t).fest = s.fest ∧
      (dispenseCancel s t).dfc = s.dfc ∧ (dispenseCancel s t).imc = s.imc ∧
      (dispenseCancel s t).ldm = s.ldm ∧ (dispenseCancel s t).rpu = s.rpu ∧
      (dispenseCancel s t).store = s.store := by
  unfold dispenseCancel
  repeat' split
  all_goals simp

@[simp] theorem pressPaddle_frame (s : State) :
    (pressPaddle s).pending = s.pending ∧ (pressPaddle s).now = s.now ∧
      (pressPaddle s).freeCount = s.freeCount ∧ (pressPaddle s).resetnLow = s.resetnLow ∧
      (pressPaddle s).supplyLow = s.supplyLow ∧ (pressPaddle s).scan = s.scan ∧
      (pressPaddle s).wpu = s.wpu ∧ (pressPaddle s).fest = s.fest ∧ (pressPaddle s).dfc = s.dfc ∧
      (pressPaddle s).imc = s.imc ∧ (pressPaddle s).ldm = s.ldm ∧ (pressPaddle s).rpu = s.rpu ∧
      (pressPaddle s).lnk = s.lnk ∧ (pressPaddle s).store = s.store := by
  unfold pressPaddle
  dsimp only
  repeat' split
  all_goals simp

@[simp] theorem releasePaddle_frame (s : State) :
    (releasePaddle s).pending = s.pending ∧ (releasePaddle s).now = s.now ∧
      (releasePaddle s).freeCount = s.freeCount ∧ (releasePaddle s).resetnLow = s.resetnLow ∧
      (releasePaddle s).supplyLow = s.supplyLow ∧ (releasePaddle s).scan = s.scan ∧
      (releasePaddle s).wpu = s.wpu ∧ (releasePaddle s).fest = s.fest ∧
      (releasePaddle s).dfc = s.dfc ∧ (releasePaddle s).imc = s.imc ∧
      (releasePaddle s).ldm = s.ldm ∧ (releasePaddle s).rpu = s.rpu ∧
      (releasePaddle s).lnk = s.lnk ∧ (releasePaddle s).store = s.store := by
  unfold releasePaddle
  repeat' split
  all_goals simp

@[simp] theorem takeRecovery_frame (s : State) (due : Nat) :
    (takeRecovery s due).pending = s.pending ∧ (takeRecovery s due).now = s.now ∧
      (takeRecovery s due).freeCount = s.freeCount ∧
      (takeRecovery s due).resetnLow = s.resetnLow ∧
      (takeRecovery s due).supplyLow = s.supplyLow ∧ (takeRecovery s due).scan = s.scan ∧
      (takeRecovery s due).wpu = s.wpu ∧ (takeRecovery s due).fest = s.fest ∧
      (takeRecovery s due).dfc = s.dfc ∧ (takeRecovery s due).imc = s.imc ∧
      (takeRecovery s due).ldm = s.ldm ∧ (takeRecovery s due).rpu = s.rpu ∧
      (takeRecovery s due).lnk = s.lnk ∧ (takeRecovery s due).store = s.store := by
  simp [takeRecovery]

/-! ### Parameters -/

@[simp] theorem changeTraceDuty_frame (s : State) (x : Load) (a b : Nat) :
    (changeTraceDuty s x a b).pending = s.pending ∧ (changeTraceDuty s x a b).now = s.now ∧
      (changeTraceDuty s x a b).freeCount = s.freeCount ∧
      (changeTraceDuty s x a b).resetnLow = s.resetnLow ∧
      (changeTraceDuty s x a b).supplyLow = s.supplyLow ∧
      (changeTraceDuty s x a b).scan = s.scan ∧ (changeTraceDuty s x a b).wpu = s.wpu ∧
      (changeTraceDuty s x a b).fest = s.fest ∧ (changeTraceDuty s x a b).dfc = s.dfc ∧
      (changeTraceDuty s x a b).imc = s.imc ∧ (changeTraceDuty s x a b).dsc = s.dsc ∧
      (changeTraceDuty s x a b).rpu = s.rpu ∧ (changeTraceDuty s x a b).lnk = s.lnk ∧
      (changeTraceDuty s x a b).store = s.store := by
  unfold changeTraceDuty
  repeat' split
  all_goals simp

@[simp] theorem storeTubeDuty_frame (s : State) (v : Nat) :
    (storeTubeDuty s v).pending = s.pending ∧ (storeTubeDuty s v).now = s.now ∧
      (storeTubeDuty s v).freeCount = s.freeCount ∧ (storeTubeDuty s v).resetnLow = s.resetnLow ∧
      (storeTubeDuty s v).supplyLow = s.supplyLow ∧ (storeTubeDuty s v).scan = s.scan ∧
      (storeTubeDuty s v).wpu = s.wpu ∧ (storeTubeDuty s v).fest = s.fest ∧
      (storeTubeDuty s v).dfc = s.dfc ∧ (storeTubeDuty s v).dsc = s.dsc ∧
      (storeTubeDuty s v).rpu = s.rpu ∧ (storeTubeDuty s v).lnk = s.lnk ∧
      (storeTubeDuty s v).store = s.store := by
  unfold storeTubeDuty
  dsimp only
  repeat' split
  all_goals simp

@[simp] theorem storeDuctDuty_frame (s : State) (v : Nat) :
    (storeDuctDuty s v).pending = s.pending ∧ (storeDuctDuty s v).now = s.now ∧
      (storeDuctDuty s v).freeCount = s.freeCount ∧ (storeDuctDuty s v).resetnLow = s.resetnLow ∧
      (storeDuctDuty s v).supplyLow = s.supplyLow ∧ (storeDuctDuty s v).scan = s.scan ∧
      (storeDuctDuty s v).wpu = s.wpu ∧ (storeDuctDuty s v).fest = s.fest ∧
      (storeDuctDuty s v).dfc = s.dfc ∧ (storeDuctDuty s v).imc = s.imc ∧
      (storeDuctDuty s v).rpu = s.rpu ∧ (storeDuctDuty s v).lnk = s.lnk ∧
      (storeDuctDuty s v).store = s.store := by
  simp [storeDuctDuty]

@[simp] theorem storeRated_frame (s : State) (x : Load) (v : Nat) :
    (storeRated s x v).pending = s.pending ∧ (storeRated s x v).now = s.now ∧
      (storeRated s x v).freeCount = s.freeCount ∧ (storeRated s x v).resetnLow = s.resetnLow ∧
      (storeRated s x v).supplyLow = s.supplyLow ∧ (storeRated s x v).scan = s.scan ∧
      (storeRated s x v).wpu = s.wpu ∧ (storeRated s x v).fest = s.fest ∧
      (storeRated s x v).dfc = s.dfc ∧ (storeRated s x v).imc = s.imc ∧
      (storeRated s x v).dsc = s.dsc ∧ (storeRated s x v).rpu = s.rpu ∧
      (storeRated s x v).lnk = s.lnk ∧ (storeRated s x v).store = s.store := by
  simp [storeRated]

@[simp] theorem storeBudget_frame (s : State) (v : Nat) :
    (storeBudget s v).pending = s.pending ∧ (storeBudget s v).now = s.now ∧
      (storeBudget s v).freeCount = s.freeCount ∧ (storeBudget s v).resetnLow = s.resetnLow ∧
      (storeBudget s v).supplyLow = s.supplyLow ∧ (storeBudget s v).scan = s.scan ∧
      (storeBudget s v).wpu = s.wpu ∧ (storeBudget s v).fest = s.fest ∧
      (storeBudget s v).dfc = s.dfc ∧ (storeBudget s v).imc = s.imc ∧
      (storeBudget s v).dsc = s.dsc ∧ (storeBudget s v).rpu = s.rpu ∧
      (storeBudget s v).lnk = s.lnk ∧ (storeBudget s v).store = s.store := by
  simp [storeBudget]

@[simp] theorem storeParam_frame (s : State) (p : Param) (v : Int) :
    (storeParam s p v).pending = s.pending ∧ (storeParam s p v).now = s.now ∧
      (storeParam s p v).freeCount = s.freeCount ∧ (storeParam s p v).resetnLow = s.resetnLow ∧
      (storeParam s p v).supplyLow = s.supplyLow ∧ (storeParam s p v).lnk = s.lnk ∧
      (storeParam s p v).store = s.store := by
  unfold storeParam
  repeat' split
  all_goals simp

@[simp] theorem setParam_frame (s : State) (i : Byte) (v : BitVec 32) :
    (setParam s i v).pending = s.pending ∧ (setParam s i v).now = s.now ∧
      (setParam s i v).freeCount = s.freeCount ∧ (setParam s i v).resetnLow = s.resetnLow ∧
      (setParam s i v).supplyLow = s.supplyLow ∧ (setParam s i v).store = s.store := by
  unfold setParam
  repeat' split
  all_goals simp

@[simp] theorem getParam_frame (s : State) (i : Byte) :
    (getParam s i).pending = s.pending ∧ (getParam s i).now = s.now ∧
      (getParam s i).freeCount = s.freeCount ∧ (getParam s i).resetnLow = s.resetnLow ∧
      (getParam s i).supplyLow = s.supplyLow ∧ (getParam s i).scan = s.scan ∧
      (getParam s i).wpu = s.wpu ∧ (getParam s i).fest = s.fest ∧ (getParam s i).dfc = s.dfc ∧
      (getParam s i).imc = s.imc ∧ (getParam s i).dsc = s.dsc ∧ (getParam s i).ldm = s.ldm ∧
      (getParam s i).rpu = s.rpu ∧ (getParam s i).store = s.store := by
  unfold getParam
  repeat' split
  all_goals simp

/-! ### Resets -/

@[simp] theorem resetBlocks_frame (s : State) (c : ResetCauses) :
    (resetBlocks s c).pending = s.pending ∧ (resetBlocks s c).now = s.now ∧
      (resetBlocks s c).freeCount = s.freeCount ∧ (resetBlocks s c).resetnLow = s.resetnLow ∧
      (resetBlocks s c).supplyLow = s.supplyLow := by
  simp [resetBlocks]

@[simp] theorem loadValues_frame (s : State) (v : Config.StoreValues) :
    (loadValues s v).pending = s.pending ∧ (loadValues s v).now = s.now ∧
      (loadValues s v).freeCount = s.freeCount ∧ (loadValues s v).resetnLow = s.resetnLow ∧
      (loadValues s v).supplyLow = s.supplyLow ∧ (loadValues s v).scan = s.scan ∧
      (loadValues s v).dfc = s.dfc ∧ (loadValues s v).imc = s.imc ∧
      (loadValues s v).dsc = s.dsc ∧ (loadValues s v).ldm = s.ldm ∧
      (loadValues s v).rpu = s.rpu ∧ (loadValues s v).lnk = s.lnk ∧
      (loadValues s v).store = s.store := by
  simp [loadValues]

@[simp] theorem startTimers_frame (s : State) :
    (startTimers s).pending = s.pending ∧ (startTimers s).now = s.now ∧
      (startTimers s).freeCount = s.freeCount ∧ (startTimers s).resetnLow = s.resetnLow ∧
      (startTimers s).supplyLow = s.supplyLow ∧ (startTimers s).dfc = s.dfc ∧
      (startTimers s).imc = s.imc ∧ (startTimers s).lnk = s.lnk ∧ (startTimers s).store = s.store := by
  simp [startTimers]

@[simp] theorem startUp_frame (s : State) :
    (startUp s).pending = s.pending ∧ (startUp s).now = s.now ∧
      (startUp s).freeCount = s.freeCount ∧ (startUp s).resetnLow = s.resetnLow ∧
      (startUp s).supplyLow = s.supplyLow ∧ (startUp s).dfc = s.dfc ∧ (startUp s).imc = s.imc ∧
      (startUp s).store = s.store := by
  simp [startUp]

@[simp] theorem restart_frame (s : State) (c : ResetCauses) :
    (restart s c).pending = s.pending ∧ (restart s c).now = s.now ∧
      (restart s c).freeCount = s.freeCount ∧ (restart s c).resetnLow = s.resetnLow ∧
      (restart s c).supplyLow = s.supplyLow := by
  unfold restart
  dsimp only
  split <;> simp

/-- Nothing holds the part: the blocks are reset and start-up follows. -/
theorem restart_of_running {s : State} (c : ResetCauses) (h : s.running = true) :
    restart s c = startUp (resetBlocks s c) := by
  simp [restart, resetBlocks, State.running] at *
  simp [h]

/-- RESETN or a low supply holds the part: the blocks are reset, and the part stays so. -/
theorem restart_of_held {s : State} (c : ResetCauses) (h : s.running = false) :
    restart s c = resetBlocks s c := by
  simp only [restart, resetBlocks, State.running] at *
  simp [h]

/-- A second reset finds every block in its state after reset, and only the record changes. -/
theorem resetBlocks_twice (s : State) (c d : ResetCauses) :
    resetBlocks (resetBlocks s c) d = resetBlocks s d := by
  simp [resetBlocks, heldScan, heldSwitches, mapChannels, ChannelRec.held, SwitchRec.held, Ldm.held,
    Lnk.held, tearStore]

@[simp] theorem linkReset_frame (s : State) :
    (linkReset s).pending = s.pending ∧ (linkReset s).now = s.now ∧
      (linkReset s).freeCount = s.freeCount ∧ (linkReset s).resetnLow = s.resetnLow ∧
      (linkReset s).supplyLow = s.supplyLow := by
  simp [linkReset]

/-! ### LNK -/

@[simp] theorem discardFrame_frame (s : State) (e : LinkError) :
    (discardFrame s e).pending = s.pending ∧ (discardFrame s e).now = s.now ∧
      (discardFrame s e).freeCount = s.freeCount ∧ (discardFrame s e).resetnLow = s.resetnLow ∧
      (discardFrame s e).supplyLow = s.supplyLow ∧ (discardFrame s e).scan = s.scan ∧
      (discardFrame s e).wpu = s.wpu ∧ (discardFrame s e).fest = s.fest ∧
      (discardFrame s e).dfc = s.dfc ∧ (discardFrame s e).imc = s.imc ∧
      (discardFrame s e).dsc = s.dsc ∧ (discardFrame s e).ldm = s.ldm ∧
      (discardFrame s e).rpu = s.rpu ∧ (discardFrame s e).store = s.store := by
  simp [discardFrame]

@[simp] theorem takeBreak_frame (s : State) :
    (takeBreak s).pending = s.pending ∧ (takeBreak s).now = s.now ∧
      (takeBreak s).freeCount = s.freeCount ∧ (takeBreak s).resetnLow = s.resetnLow ∧
      (takeBreak s).supplyLow = s.supplyLow ∧ (takeBreak s).scan = s.scan ∧
      (takeBreak s).wpu = s.wpu ∧ (takeBreak s).fest = s.fest ∧ (takeBreak s).dfc = s.dfc ∧
      (takeBreak s).imc = s.imc ∧ (takeBreak s).dsc = s.dsc ∧ (takeBreak s).ldm = s.ldm ∧
      (takeBreak s).rpu = s.rpu ∧ (takeBreak s).store = s.store := by
  unfold takeBreak
  repeat' split
  all_goals simp

@[simp] theorem endBreak_frame (s : State) :
    (endBreak s).pending = s.pending ∧ (endBreak s).now = s.now ∧
      (endBreak s).freeCount = s.freeCount ∧ (endBreak s).resetnLow = s.resetnLow ∧
      (endBreak s).supplyLow = s.supplyLow ∧ (endBreak s).scan = s.scan ∧
      (endBreak s).wpu = s.wpu ∧ (endBreak s).fest = s.fest ∧ (endBreak s).dfc = s.dfc ∧
      (endBreak s).imc = s.imc ∧ (endBreak s).dsc = s.dsc ∧ (endBreak s).ldm = s.ldm ∧
      (endBreak s).rpu = s.rpu ∧ (endBreak s).store = s.store := by
  unfold endBreak
  repeat' split
  all_goals simp

@[simp] theorem takeSyncByte_frame (s : State) (n : Nat) (r : SyncSamples) :
    (takeSyncByte s n r).pending = s.pending ∧ (takeSyncByte s n r).now = s.now ∧
      (takeSyncByte s n r).freeCount = s.freeCount ∧
      (takeSyncByte s n r).resetnLow = s.resetnLow ∧
      (takeSyncByte s n r).supplyLow = s.supplyLow ∧ (takeSyncByte s n r).scan = s.scan ∧
      (takeSyncByte s n r).wpu = s.wpu ∧ (takeSyncByte s n r).fest = s.fest ∧
      (takeSyncByte s n r).dfc = s.dfc ∧ (takeSyncByte s n r).imc = s.imc ∧
      (takeSyncByte s n r).dsc = s.dsc ∧ (takeSyncByte s n r).ldm = s.ldm ∧
      (takeSyncByte s n r).rpu = s.rpu ∧ (takeSyncByte s n r).store = s.store := by
  unfold takeSyncByte
  repeat' split
  all_goals simp

@[simp] theorem dispatchFrame_frame (s : State) (k : Byte) (p : List Byte) :
    (dispatchFrame s k p).pending = s.pending ∧ (dispatchFrame s k p).now = s.now ∧
      (dispatchFrame s k p).freeCount = s.freeCount ∧
      (dispatchFrame s k p).resetnLow = s.resetnLow ∧
      (dispatchFrame s k p).supplyLow = s.supplyLow ∧ (dispatchFrame s k p).scan = s.scan ∧
      (dispatchFrame s k p).wpu = s.wpu ∧ (dispatchFrame s k p).fest = s.fest ∧
      (dispatchFrame s k p).dfc = s.dfc ∧ (dispatchFrame s k p).imc = s.imc ∧
      (dispatchFrame s k p).dsc = s.dsc ∧ (dispatchFrame s k p).ldm = s.ldm ∧
      (dispatchFrame s k p).rpu = s.rpu ∧ (dispatchFrame s k p).store = s.store := by
  unfold dispatchFrame
  repeat' split
  all_goals simp

@[simp] theorem acceptFrame_frame (s : State) (b : List Byte) :
    (acceptFrame s b).pending = s.pending ∧ (acceptFrame s b).now = s.now ∧
      (acceptFrame s b).freeCount = s.freeCount ∧ (acceptFrame s b).resetnLow = s.resetnLow ∧
      (acceptFrame s b).supplyLow = s.supplyLow ∧ (acceptFrame s b).scan = s.scan ∧
      (acceptFrame s b).wpu = s.wpu ∧ (acceptFrame s b).fest = s.fest ∧
      (acceptFrame s b).dfc = s.dfc ∧ (acceptFrame s b).imc = s.imc ∧
      (acceptFrame s b).dsc = s.dsc ∧ (acceptFrame s b).ldm = s.ldm ∧
      (acceptFrame s b).rpu = s.rpu ∧ (acceptFrame s b).store = s.store := by
  unfold acceptFrame
  repeat' split
  all_goals simp

@[simp] theorem finishFrame_frame (s : State) (b : List Byte) :
    (finishFrame s b).pending = s.pending ∧ (finishFrame s b).now = s.now ∧
      (finishFrame s b).freeCount = s.freeCount ∧ (finishFrame s b).resetnLow = s.resetnLow ∧
      (finishFrame s b).supplyLow = s.supplyLow ∧ (finishFrame s b).scan = s.scan ∧
      (finishFrame s b).wpu = s.wpu ∧ (finishFrame s b).fest = s.fest ∧
      (finishFrame s b).dfc = s.dfc ∧ (finishFrame s b).imc = s.imc ∧
      (finishFrame s b).dsc = s.dsc ∧ (finishFrame s b).ldm = s.ldm ∧
      (finishFrame s b).rpu = s.rpu ∧ (finishFrame s b).store = s.store := by
  unfold finishFrame
  repeat' split
  all_goals simp

@[simp] theorem receiveBytes_frame (s : State) (b : List Byte) (e : Option RxError) :
    (receiveBytes s b e).pending = s.pending ∧ (receiveBytes s b e).now = s.now ∧
      (receiveBytes s b e).freeCount = s.freeCount ∧
      (receiveBytes s b e).resetnLow = s.resetnLow ∧
      (receiveBytes s b e).supplyLow = s.supplyLow ∧ (receiveBytes s b e).scan = s.scan ∧
      (receiveBytes s b e).wpu = s.wpu ∧ (receiveBytes s b e).fest = s.fest ∧
      (receiveBytes s b e).dfc = s.dfc ∧ (receiveBytes s b e).imc = s.imc ∧
      (receiveBytes s b e).dsc = s.dsc ∧ (receiveBytes s b e).ldm = s.ldm ∧
      (receiveBytes s b e).rpu = s.rpu ∧ (receiveBytes s b e).store = s.store := by
  unfold receiveBytes
  dsimp only
  repeat' split
  all_goals simp

@[simp] theorem endReply_frame (s : State) :
    (endReply s).pending = s.pending ∧ (endReply s).now = s.now ∧
      (endReply s).freeCount = s.freeCount ∧ (endReply s).resetnLow = s.resetnLow ∧
      (endReply s).supplyLow = s.supplyLow := by
  unfold endReply
  dsimp only
  repeat' split
  all_goals simp

@[simp] theorem linkStatus_frame (s : State) :
    (linkStatus s).pending = s.pending ∧ (linkStatus s).now = s.now ∧
      (linkStatus s).freeCount = s.freeCount ∧ (linkStatus s).resetnLow = s.resetnLow ∧
      (linkStatus s).supplyLow = s.supplyLow ∧ (linkStatus s).scan = s.scan ∧
      (linkStatus s).wpu = s.wpu ∧ (linkStatus s).fest = s.fest ∧ (linkStatus s).dfc = s.dfc ∧
      (linkStatus s).imc = s.imc ∧ (linkStatus s).dsc = s.dsc ∧ (linkStatus s).ldm = s.ldm ∧
      (linkStatus s).rpu = s.rpu ∧ (linkStatus s).store = s.store := by
  simp [linkStatus]

@[simp] theorem readResetCause_frame (s : State) :
    (readResetCause s).pending = s.pending ∧ (readResetCause s).now = s.now ∧
      (readResetCause s).freeCount = s.freeCount ∧ (readResetCause s).resetnLow = s.resetnLow ∧
      (readResetCause s).supplyLow = s.supplyLow ∧ (readResetCause s).scan = s.scan ∧
      (readResetCause s).wpu = s.wpu ∧ (readResetCause s).fest = s.fest ∧
      (readResetCause s).dfc = s.dfc ∧ (readResetCause s).imc = s.imc ∧
      (readResetCause s).dsc = s.dsc ∧ (readResetCause s).ldm = s.ldm ∧
      (readResetCause s).rpu = s.rpu ∧ (readResetCause s).store = s.store := by
  simp [readResetCause]

@[simp] theorem resetPart_frame (s : State) :
    (resetPart s).pending = s.pending ∧ (resetPart s).now = s.now ∧
      (resetPart s).freeCount = s.freeCount ∧ (resetPart s).resetnLow = s.resetnLow ∧
      (resetPart s).supplyLow = s.supplyLow ∧ (resetPart s).scan = s.scan ∧
      (resetPart s).wpu = s.wpu ∧ (resetPart s).fest = s.fest ∧ (resetPart s).dfc = s.dfc ∧
      (resetPart s).imc = s.imc ∧ (resetPart s).dsc = s.dsc ∧ (resetPart s).ldm = s.ldm ∧
      (resetPart s).rpu = s.rpu ∧ (resetPart s).store = s.store := by
  simp [resetPart]

@[simp] theorem startWrite_frame (s : State) :
    (startWrite s).pending = s.pending ∧ (startWrite s).now = s.now ∧
      (startWrite s).freeCount = s.freeCount ∧ (startWrite s).resetnLow = s.resetnLow ∧
      (startWrite s).supplyLow = s.supplyLow ∧ (startWrite s).scan = s.scan ∧
      (startWrite s).wpu = s.wpu ∧ (startWrite s).fest = s.fest ∧ (startWrite s).dfc = s.dfc ∧
      (startWrite s).imc = s.imc ∧ (startWrite s).dsc = s.dsc ∧ (startWrite s).ldm = s.ldm ∧
      (startWrite s).rpu = s.rpu := by
  simp [startWrite]

@[simp] theorem requestSave_frame (s : State) :
    (requestSave s).pending = s.pending ∧ (requestSave s).now = s.now ∧
      (requestSave s).freeCount = s.freeCount ∧ (requestSave s).resetnLow = s.resetnLow ∧
      (requestSave s).supplyLow = s.supplyLow ∧ (requestSave s).scan = s.scan ∧
      (requestSave s).wpu = s.wpu ∧ (requestSave s).fest = s.fest ∧ (requestSave s).dfc = s.dfc ∧
      (requestSave s).imc = s.imc ∧ (requestSave s).dsc = s.dsc ∧ (requestSave s).ldm = s.ldm ∧
      (requestSave s).rpu = s.rpu := by
  unfold requestSave
  repeat' split
  all_goals simp

@[simp] theorem endWrite_frame (s : State) :
    (endWrite s).pending = s.pending ∧ (endWrite s).now = s.now ∧
      (endWrite s).freeCount = s.freeCount ∧ (endWrite s).resetnLow = s.resetnLow ∧
      (endWrite s).supplyLow = s.supplyLow ∧ (endWrite s).scan = s.scan ∧
      (endWrite s).wpu = s.wpu ∧ (endWrite s).fest = s.fest ∧ (endWrite s).dfc = s.dfc ∧
      (endWrite s).imc = s.imc ∧ (endWrite s).dsc = s.dsc ∧ (endWrite s).ldm = s.ldm ∧
      (endWrite s).rpu = s.rpu := by
  unfold endWrite
  dsimp only
  repeat' split
  all_goals simp

end Sys2Proof.Machine
end

