-- ==== Sys2Proof/Laws/Acts.lean ====
section
/-! SUPPORT. For the shared operations of the blocks, one lemma each that gives the whole state they
answer, as one record update or as one of the acts of Safety.lean. -/

namespace Sys2Proof.Machine

open Sys2Proof Sys2Proof.Safety

/-! ### Bytes and numbers -/

theorem byteOf_append16 (x : BitVec 16) : byteOf x 1 ++ byteOf x 0 = x := by
  ext i hi
  simp only [byteOf, BitVec.getElem_append, BitVec.getElem_extractLsb']
  repeat' split
  all_goals (rw [BitVec.getLsbD_eq_getElem (by omega)]; congr 1; omega)

theorem byteOf_append24 (x : BitVec 24) : byteOf x 2 ++ byteOf x 1 ++ byteOf x 0 = x := by
  ext i hi
  simp only [byteOf, BitVec.getElem_append, BitVec.getElem_extractLsb']
  repeat' split
  all_goals (rw [BitVec.getLsbD_eq_getElem (by omega)]; congr 1; omega)

theorem byteOf_append32 (x : BitVec 32) :
    byteOf x 3 ++ byteOf x 2 ++ byteOf x 1 ++ byteOf x 0 = x := by
  ext i hi
  simp only [byteOf, BitVec.getElem_append, BitVec.getElem_extractLsb']
  repeat' split
  all_goals (rw [BitVec.getLsbD_eq_getElem (by omega)]; congr 1; omega)

/-- A window of one sample forms that sample. -/
theorem formedValue_singleton (v : Int) : formedValue [v] = v := by
  simp [formedValue]; omega

/-- R5: pushing a sample leaves at most four. -/
theorem pushSample_eq (w : List Temp) (v : Temp) :
    pushSample w v = (if w.length < 4 then w else w.tail) ++ [v] := by
  unfold pushSample
  split <;> split <;> first | omega | simp

/-! ### Rates (R156) -/

theorem isBreakLow_iff (d : Nat) : isBreakLow d = true ↔ 13 * 1000000000 ≤ 9600 * d := by
  simp [isBreakLow]

theorem takeSyncByte_of_break (s : State) {d : Nat} (m : SyncSamples)
    (h : 13 * 1000000000 ≤ 9600 * d) : takeSyncByte s d m = endBreak (takeBreak s) := by
  simp [takeSyncByte, (isBreakLow_iff d).2 h]

theorem isBreakLow_of_lt {d : Nat} (h : 9600 * d < 13 * 1000000000) : isBreakLow d = false := by
  rw [← Bool.not_eq_true, isBreakLow_iff]
  omega

theorem inSnapWindow_iff (d : Nat) (r : Rate) : inSnapWindow d r = true ↔
    95 * rateBps r * d ≤ 500000000000 ∧ 500000000000 ≤ 105 * rateBps r * d := by
  simp [inSnapWindow]

/-- The windows of two rates do not overlap. -/
theorem inSnapWindow_unique {d : Nat} {a b : Rate} (ha : inSnapWindow d a = true)
    (hb : inSnapWindow d b = true) : a = b := by
  rw [inSnapWindow_iff] at ha hb
  cases a <;> cases b <;> simp only [rateBps] at ha hb <;> first | rfl | omega

theorem snapRate_of_window {d : Nat} {r : Rate} (h : inSnapWindow d r = true) :
    snapRate d = some r := by
  unfold snapRate
  have hs : (List.find? (inSnapWindow d) [Rate.r9600, .r19200, .r38400, .r57600]).isSome := by
    rw [List.find?_isSome]
    exact ⟨r, by cases r <;> simp, h⟩
  obtain ⟨x, hx⟩ := Option.isSome_iff_exists.1 hs
  rw [hx, inSnapWindow_unique (List.find?_some hx) h]

theorem snapRate_of_no_window {d : Nat} (h : ∀ r, inSnapWindow d r = false) :
    snapRate d = none := by
  unfold snapRate
  rw [List.find?_eq_none]
  intro r _ hr
  simp [h r] at hr

/-! ### Reading the line (R155) -/

theorem readBit_sentBit (level : Bool) : readBit (sentBit level) = some level := by
  simp [readBit, sentBit]

/-- Three samples that disagree are those of no level. -/
theorem readBit_of_disagree {b : BitSamples} (h : ∀ level, b ≠ sentBit level) :
    readBit b = none := by
  have h1 := h true
  have h2 := h false
  obtain ⟨x, y, z⟩ := b
  revert x y z
  decide

theorem readLevels_of_disagree {b : BitSamples} (h : ∀ level, b ≠ sentBit level) :
    ∀ data : List BitSamples, b ∈ data → readLevels data = none
  | [], hb => absurd hb (List.not_mem_nil)
  | a :: data, hb => by
    rcases List.mem_cons.1 hb with rfl | hb
    · simp [readLevels, readBit_of_disagree h]
    · simp only [readLevels, readLevels_of_disagree h data hb]
      cases readBit a <;> rfl

/-- Samples that disagree, in a data bit or in the stop bit, make a noise error. -/
theorem readBits_of_disagree {data : List BitSamples} {stop : BitSamples}
    (h : ∃ b ∈ data ++ [stop], ∀ level, b ≠ sentBit level) :
    readBits data stop = .error .noise := by
  obtain ⟨b, hb, hn⟩ := h
  unfold readBits
  rcases List.mem_append.1 hb with hb | hb
  · simp only [readLevels_of_disagree hn _ hb]
  · rw [List.mem_singleton] at hb
    rw [← hb, readBit_of_disagree hn]
    cases readLevels data <;> rfl

/-- An undisturbed byte is read as it was sent. -/
theorem readBits_sentByte (x : Byte) :
    ∃ levels, readBits (lineData (sentByte x)) (sentByte x).stop = .levels levels ∧
      bitsByte levels = x := by
  refine ⟨_, by simp only [readBits, lineData, sentByte, readLevels, readBit_sentBit]; rfl, ?_⟩
  revert x
  decide

/-- An undisturbed line is read as the bytes sent. -/
theorem readLine_sentByte (bytes : List Byte) : readLine (bytes.map sentByte) = (bytes, none) := by
  induction bytes with
  | nil => rfl
  | cons b bytes ih =>
    obtain ⟨levels, h, hb⟩ := readBits_sentByte b
    simp only [List.map, readLine, h, hb, ih]

/-! ### The filter account and the coil (R25, R35, R37) -/

theorem reevaluateFilter_eq (s : State) : reevaluateFilter s =
    { s with
      handovers := s.handovers
        ++ filterEvent s.wpu.status s.wpu.used s.wpu.capacity s.wpu.age s.wpu.ageLim,
      wpu := { s.wpu with
        status := filterStatusOf s.wpu.used s.wpu.capacity s.wpu.age s.wpu.ageLim } } := by
  unfold reevaluateFilter filterEvent
  dsimp only
  split <;> rename_i h
  · simp [h]
  · simp [State.raise, State.handover, State.withHandovers, State.withWpu]

theorem countUsed_eq (s : State) : countUsed s =
    { s with handovers := s.handovers ++ usedHandovers s.wpu, wpu := countedUsed s.wpu } := by
  unfold countUsed usedHandovers countedUsed
  simp only [Config.usedMax_eq, reevaluateFilter_eq]
  split
  · by_cases hs : 2000 ≤ s.wpu.saveSteps + 1 <;>
      simp [hs, State.handover, State.withHandovers, State.withWpu]
  · simp

theorem closeCoil_of_open {s : State} {g : Grant} (cause : CloseCause) (hp : s.wpu.path = .opened)
    (hg : s.wpu.grant = some g) : closeCoil s cause =
    { s with
      handovers := s.handovers ++ [closedHandover g.holder cause],
      wpu := { s.wpu with
        grant := some { g with cause := some cause }, noFlowTimer := none, path := .settling,
        settleTimer := some (s.now + 1000) } } := by
  cases hh : g.holder <;>
    simp [closeCoil, hp, hg, hh, handClosed, closedHandover, State.handover, State.withHandovers,
      State.withWpu]

theorem closeCoil_of_not_open {s : State} (cause : CloseCause) (hp : s.wpu.path ≠ .opened) :
    closeCoil s cause = s := by
  unfold closeCoil
  split
  · exact absurd ‹_› hp
  · rfl

/-! ### Loads (R126 to R131) -/

/-- What the net change of one load hands. -/
theorem handIfChanged_eq (old : Loads) (s : State) (x : Load) : handIfChanged old s x =
    { s with
      handovers := s.handovers ++
        (let was := decide ((getLoad old x).state = .on)
        let is := decide ((getLoad s.ldm.loads x).state = .on)
        if was = is then []
        else match x with
          | .defHtr => [.heaterOnAtDfc is]
          | .moldHtr => [.moldOnAtImc is]
          | .rakeMtr => [.rakeOnAtImc is]
          | .fillTubeHtr | .ductHtr => []) } := by
  by_cases h1 : (getLoad old x).state = .on <;> by_cases h2 : (getLoad s.ldm.loads x).state = .on <;>
    cases x <;> simp [handIfChanged, State.load, h1, h2, handLoad, State.handover, State.withHandovers]

theorem commitLoads_eq (s : State) (l : Loads) : commitLoads s l = loadsSet s l := by
  unfold commitLoads loadsSet netHandovers
  simp only [loadOrder, List.foldl, List.flatMap_cons, List.flatMap_nil, handIfChanged_eq,
    List.append_assoc, List.append_nil, State.withLdm]

/-- R127: a request, whole. -/
theorem requestLoad_eq (s : State) (x : Load) (duty : Nat) : requestLoad s x duty =
    (let e := { s.load x with duty := requestedDuty x (s.load x) duty }
    if e.state = .off ∧ s.ldm.monitor = .normal then
      loadsSet s (evaluateLoads s.now s.ldm.budget
        (setLoad s.ldm.loads x { e with state := .waiting }))
    else loadsSet s (setLoad s.ldm.loads x
      (if e.state = .off then { e with state := .shed } else e))) := by
  unfold requestLoad settleLoads
  dsimp only [State.load]
  split <;> rename_i h1 h2
  · simp [h1, h2, commitLoads_eq]
  · simp [h1, h2, commitLoads_eq]
  · cases hm : s.ldm.monitor <;> by_cases hs : (getLoad s.ldm.loads x).state = .off <;>
      simp_all [commitLoads_eq]

/-- TABLE 7-2: a release at the entry, whole. -/
theorem releaseEntry_eq (s : State) (x : Load) : releaseEntry s x =
    (let released := setLoad s.ldm.loads x
      { s.load x with state := .off, driven := false, period := none }
    if (s.load x).state = .off then s
    else if (s.load x).state = .shed ∨ s.ldm.monitor = .sag then loadsSet s released
    else loadsSet (loadsSet s released) (evaluateLoads s.now s.ldm.budget released)) := by
  unfold releaseEntry evaluateNow
  dsimp only [State.load]
  split <;> rename_i hs
  · simp [hs]
  · simp [hs, commitLoads_eq, leaveOn]
  all_goals cases hm : s.ldm.monitor <;> simp [hs, commitLoads_eq, loadsSet, leaveOn, hm]

/-- With no request of the load in flight a release has its effect at the entry only. -/
theorem releaseLoad_of_none {s : State} {x : Load}
    (h : s.handovers.find? (requestInFlight x) = none) : releaseLoad s x = releaseEntry s x := by
  have hn : ∀ c ∈ s.handovers, ¬requestInFlight x c = true := by
    simpa [List.find?_eq_none] using h
  have hf : s.handovers.filter (requestInFlight x) = [] := List.filter_eq_nil_iff.2 hn
  have hk : (s.handovers.filter fun c => !requestInFlight x c) = s.handovers :=
    List.filter_eq_self.2 fun c hc => by simpa using hn c hc
  simp [releaseLoad, takeInFlight, hf, hk, State.withHandovers]

/-- Taking a request neither reads nor writes DFC or IMC. -/
theorem takeRequest_with (s : State) (c : Instr) (d : Dfc) (i : Imc) :
    takeRequest { s with dfc := d, imc := i } c =
      { takeRequest s c with dfc := d, imc := i } := by
  cases c <;> simp only [takeRequest]
  · rename_i x duty
    by_cases h : (getLoad s.ldm.loads x).state = .off ∧ s.ldm.monitor = .normal
    · simp only [requestLoad_eq, State.load, loadsSet, h, and_self, if_true]
    · simp only [requestLoad_eq, State.load, loadsSet, h, if_false]
      rfl
  · simp [changeDuty, State.load, State.withLdm]

theorem foldl_takeRequest_with (cs : List Instr) (s : State) (d : Dfc) (i : Imc) :
    cs.foldl takeRequest { s with dfc := d, imc := i } =
      { cs.foldl takeRequest s with dfc := d, imc := i } := by
  induction cs generalizing s with
  | nil => rfl
  | cons c cs ih => simp only [List.foldl_cons, takeRequest_with, ih]

/-- What a change of the load table hands is no request of a load. -/
theorem requestInFlight_netHandovers {old new : Loads} {i : Instr} (h : i ∈ netHandovers old new)
    (x : Load) : requestInFlight x i = false := by
  simp only [netHandovers, loadOrder, List.mem_flatMap] at h
  obtain ⟨y, -, hy⟩ := h
  split at hy
  · simp at hy
  · cases y <;> simp at hy <;> subst hy <;> rfl

/-- Taking a request hands on what the change of the table gives, whatever else is in flight. -/
theorem takeRequest_withHandovers (s : State) (c : Instr) :
    ∃ handed, (∀ x, ∀ i ∈ handed, requestInFlight x i = false) ∧
      ∀ l, takeRequest (s.withHandovers l) c = (takeRequest s c).withHandovers (l ++ handed) := by
  by_cases hc : ∃ y duty, c = .loadRequest y duty
  · obtain ⟨y, duty, rfl⟩ := hc
    have hl : ∃ new, ∀ l, takeRequest (s.withHandovers l) (.loadRequest y duty) =
        loadsSet (s.withHandovers l) new := by
      simp only [takeRequest, requestLoad_eq, State.load, State.withHandovers]
      by_cases hs : (getLoad s.ldm.loads y).state = .off
      · by_cases hm : s.ldm.monitor = .normal
        · simp only [hs, hm, and_self, if_true]
          exact ⟨_, fun _ => rfl⟩
        · simp only [hs, hm, and_false, if_true, if_false]
          exact ⟨_, fun _ => rfl⟩
      · simp only [hs, false_and, if_false]
        exact ⟨_, fun _ => rfl⟩
    obtain ⟨new, hnew⟩ := hl
    have hs : takeRequest s (.loadRequest y duty) = loadsSet s new := hnew s.handovers
    exact ⟨netHandovers s.ldm.loads new, fun x i hi => requestInFlight_netHandovers hi x,
      fun l => by rw [hnew, hs]; rfl⟩
  · refine ⟨[], by simp, fun l => ?_⟩
    cases c <;>
      simp [takeRequest, changeDuty, State.withLdm, State.withHandovers, State.load] at hc ⊢

/-- A release neither reads nor writes DFC or IMC. -/
theorem releaseLoad_with (s : State) (x : Load) (d : Dfc) (i : Imc) :
    releaseLoad { s with dfc := d, imc := i } x =
      { releaseLoad s x with dfc := d, imc := i } := by
  have h := foldl_takeRequest_with (s.handovers.filter (requestInFlight x))
    (s.withHandovers (s.handovers.filter fun c => !requestInFlight x c)) d i
  simp only [State.withHandovers] at h
  simp only [releaseLoad, takeInFlight, State.withHandovers, h]
  generalize List.foldl takeRequest _ _ = u
  by_cases h1 : (getLoad u.ldm.loads x).state = .off <;>
    by_cases h2 : (getLoad u.ldm.loads x).state = .shed ∨ u.ldm.monitor = .sag <;>
    simp only [releaseEntry_eq, loadsSet, State.load, h1, h2, if_true, if_false]

theorem releaseLoad_withDfc (s : State) (x : Load) (d : Dfc) :
    releaseLoad { s with dfc := d } x = { releaseLoad s x with dfc := d } := by
  have h := releaseLoad_with s x d s.imc
  have hi : (releaseLoad s x).imc = s.imc := by simp
  rw [← hi] at h
  simpa only [hi] using h

theorem releaseLoad_withImc (s : State) (x : Load) (i : Imc) :
    releaseLoad { s with imc := i } x = { releaseLoad s x with imc := i } := by
  have h := releaseLoad_with s x s.dfc i
  have hd : (releaseLoad s x).dfc = s.dfc := by simp
  rw [← hd] at h
  simpa only [hd] using h

/-! ### DFC (R68, R71) -/

theorem endHeat_eq {s : State} (cause : HeatEnd) (h : s.dfc.state = .heat) :
    endHeat s cause = heatEnded s cause := by
  unfold endHeat heatEnded changeDefrost
  simp only [State.withDfc, releaseLoad_withDfc]
  simp [State.handover, State.raise, State.withHandovers, closeHeatRecord, h]

theorem restartFan_eq {s : State} {r : DefrostRecord} {cause : HeatEnd}
    (h : s.dfc.current = some r) (hc : r.endCause = some cause) :
    restartFan s = fanRestarted s r cause := by
  unfold restartFan fanRestarted
  cases cause <;>
    simp [h, hc, restartFan.changeDefrostQuiet, fileRecord, startsHold] <;>
    simp [State.handover, State.raise, State.withHandovers, State.withDfc, satAdd]

/-! ### IMC (R82, R86, R90 to R93, R95, R98, R101) -/

theorem changeIce_eq (s : State) (new : IceState) : changeIce s new = iceEntered s new s.imc := by
  simp [changeIce, iceEntered, State.handover, State.raise, State.withHandovers, State.withImc]

theorem enterOff_eq (s : State) : enterOff s = iceOff s := by
  simp [enterOff, iceOff, changeIce_eq, iceEntered, State.withImc]

theorem enterFreezing_eq (s : State) : enterFreezing s =
    iceEntered s .freezing { s.imc with creditTimer := some (s.now + 10000) } := by
  simp [enterFreezing, changeIce_eq, iceEntered, State.withImc]

theorem enterHarvestHeat_eq (s : State) : enterHarvestHeat s = harvestHeatEntered s := by
  simp [enterHarvestHeat, harvestHeatEntered, changeIce_eq, iceEntered, onBatch]

theorem endHarvestHeat_eq (s : State) : endHarvestHeat s = harvestHeatEnded s := by
  simp only [endHarvestHeat, harvestHeatEnded, State.withImc, releaseLoad_withImc, enterHarvestRake,
    changeIce_eq, iceEntered]
  simp [State.handover, State.withHandovers, rakeHomeAsserted, State.switchAsserted]

theorem freezeFill_eq (s : State) (cause : FillEnd) : freezeFill s cause = fillFrozen s cause := by
  simp [freezeFill, fillFrozen, enterFreezing, changeIce_eq, iceEntered, onBatch, freezeTargetOf,
    State.withImc]

theorem failRake_eq (s : State) (failed : RakeState) : failRake s failed = rakeFailed s failed := by
  unfold failRake rakeFailed
  simp only [State.withImc, releaseLoad_withImc, enterOff_eq, alreadyRetried, changeIce_eq]
  cases s.imc.disablePending <;> cases s.imc.batch with
  | none => simp [iceEntered, onBatch, State.withImc]
  | some b =>
    cases hr : b.rakeRetried <;>
      simp [hr, iceEntered, onBatch, State.withImc, State.handover, State.raise,
        State.withHandovers, satAdd]

/-- R95, with FZ as given and DFC's present state (log 14). -/
theorem fillWanted_iff (s : State) (status : ChannelStatus) (value : Option Temp) :
    fillWanted s status value = true ↔
      (status ≠ .ok ∨ ∃ v, value = some v ∧ v ≤ s.imc.startTemp) ∧
        s.dfc.state ≠ .heat ∧ s.dfc.state ≠ .drip ∧
        (s.imc.state = .fillWait → s.imc.noWaterTimer = none) := by
  have hz : fzAllows s.imc.startTemp status value = true ↔
      (status ≠ .ok ∨ ∃ v, value = some v ∧ v ≤ s.imc.startTemp) := by
    unfold fzAllows
    cases status <;> cases value <;> simp
  have hd : defrostAllows s.dfc.state = true ↔ s.dfc.state ≠ .heat ∧ s.dfc.state ≠ .drip := by
    cases s.dfc.state <;> simp [defrostAllows]
  unfold fillWanted
  rw [Bool.and_eq_true, Bool.and_eq_true, hz, hd]
  cases s.imc.noWaterTimer <;> simp [and_assoc]

/-! ### DSC (R109, R113, R114) -/

theorem completeHead_eq (s : State) (e : Entry) (cause : Completion) :
    completeHead s e cause = dispenseCompleted s e cause := by
  unfold completeHead dispenseCompleted
  simp [completionOf, State.raise, State.handover, State.withHandovers, State.withDsc]

theorem stopEntry_of_wait (s : State) {e : Entry} (cause : Completion) (h : e.state = .activeWait) :
    stopEntry s e cause = waitStopped s e cause := by
  simp [stopEntry, h, completeHead_eq, waitStopped, State.withView, State.handover,
    State.withHandovers, State.withDsc]

theorem stopEntry_of_flow {s : State} {e : Entry} {rest : List Entry} (cause : Completion)
    (hq : s.dsc.queue = e :: rest) (h : e.state = .activeFlow) (hv : e.valve = some .opened)
    (hc : e.stopCause = none) : stopEntry s e cause = flowStopped s e cause := by
  simp [stopEntry, h, hv, hc, flowStopped, stopFlow, State.withQueue, hq, onHead, State.handover,
    State.withHandovers, State.withDsc]

theorem stopEntry_of_stopped (s : State) {e : Entry} (cause : Completion)
    (h : e.state = .activeFlow) (hc : e.valve = some .closed ∨ e.stopCause ≠ none) :
    stopEntry s e cause = restop s cause := by
  simp only [stopEntry, h]
  rw [if_neg]
  rintro ⟨hv, hn⟩
  rcases hc with hc | hc
  · simp [hv] at hc
  · exact hc hn

/-! ### PADDLE as DSC keeps it, and the latch (R114, R117, R118) -/

@[simp] theorem completeHead_paddle (s : State) (e : Entry) (cause : Completion) :
    (completeHead s e cause).dsc.paddle = s.dsc.paddle := rfl

@[simp] theorem testActivation_paddle (s : State) :
    (testActivation s).dsc.paddle = s.dsc.paddle := by
  unfold testActivation
  repeat' split
  all_goals rfl

@[simp] theorem stopEntry_paddle (s : State) (e : Entry) (cause : Completion) :
    (stopEntry s e cause).dsc.paddle = s.dsc.paddle := by
  unfold stopEntry stopFlow restop
  repeat' split
  all_goals rfl

@[simp] theorem pressPaddle_paddle (s : State) : (pressPaddle s).dsc.paddle = s.dsc.paddle := by
  unfold pressPaddle
  dsimp only
  repeat' split
  all_goals first | rfl | exact stopEntry_paddle _ _ _

@[simp] theorem releasePaddle_paddle (s : State) :
    (releasePaddle s).dsc.paddle = s.dsc.paddle := by
  unfold releasePaddle
  repeat' split
  all_goals first | rfl | exact testActivation_paddle _ | exact stopEntry_paddle _ _ _

/-- The latch is set only while PADDLE, as DSC keeps it, is asserted. -/
theorem completeHead_latch {s : State} (e : Entry) (cause : Completion)
    (h : s.dsc.latch = true → s.dsc.paddle = true) :
    (completeHead s e cause).dsc.latch = true → (completeHead s e cause).dsc.paddle = true := by
  cases hp : s.dsc.paddle <;> simp_all [completeHead_eq, dispenseCompleted]

theorem testActivation_latch {s : State} (h : s.dsc.latch = true → s.dsc.paddle = true) :
    (testActivation s).dsc.latch = true → (testActivation s).dsc.paddle = true := by
  unfold testActivation
  repeat' split
  all_goals first | exact completeHead_latch _ _ h | exact h

theorem stopEntry_latch {s : State} (e : Entry) (cause : Completion)
    (h : s.dsc.latch = true → s.dsc.paddle = true) :
    (stopEntry s e cause).dsc.latch = true → (stopEntry s e cause).dsc.paddle = true := by
  unfold stopEntry stopFlow restop
  repeat' split
  all_goals first | exact h | exact completeHead_latch _ _ h

/-- After a release the latch is clear: no completion that it brings about sets it. -/
theorem releasePaddle_latch {s : State} (h : s.dsc.paddle = false) :
    (releasePaddle s).dsc.latch = false := by
  have hc : (releasePaddle s).dsc.latch = true → (releasePaddle s).dsc.paddle = true := by
    unfold releasePaddle
    split
    · exact testActivation_latch nofun
    · rename_i hl
      have hn : s.dsc.latch = true → s.dsc.paddle = true := fun hs => absurd hs hl
      repeat' split
      all_goals first | exact hn | exact stopEntry_latch _ _ hn
  simpa [h] using hc

theorem flowingEntry_eq_none {s : State}
    (h : ∀ e rest, ¬(s.dsc.queue = e :: rest ∧ e.state = .activeFlow)) :
    flowingEntry s.dsc.queue = none := by
  cases hq : s.dsc.queue with
  | nil => rfl
  | cons e rest =>
    have hn := h e rest
    simp [hq] at hn
    simp [flowingEntry, hn]

end Sys2Proof.Machine
end

