-- ==== Sys2Proof/Laws/PerInstr.lean ====
section
/-! SUPPORT. One lemma per constructor of `Instr` for the family RequestCode: what a request writes as
KIND and payload has the length TABLE 9-5 gives its KIND, and a command that is no request writes
nothing. -/

namespace Sys2Proof.Laws

/-- TABLE 9-5: the payload a command writes has the length of its KIND. -/
def RequestCode.Statement (i : Instr) : Prop :=
  ∀ kind payload, encodeRequest i = some (kind, payload) → requestLength kind = some payload.length

/-- A command that is no request meets the statement. -/
theorem RequestCode.of_none {i : Instr} (h : encodeRequest i = none) : RequestCode.Statement i := by
  intro kind payload e
  rw [h] at e
  cases e

/-- A request meets the statement when its own KIND and payload do. -/
theorem RequestCode.of_some {i : Instr} {k : Byte} {p : List Byte} (h : encodeRequest i = some (k, p))
    (hl : requestLength k = some p.length) : RequestCode.Statement i := by
  intro kind payload e
  rw [h] at e
  cases e
  exact hl

theorem RequestCode.powerOn : RequestCode.Statement .powerOn := RequestCode.of_none rfl
theorem RequestCode.supplyLow : RequestCode.Statement .supplyLow := RequestCode.of_none rfl
theorem RequestCode.resetLine : RequestCode.Statement .resetLine := RequestCode.of_none rfl
theorem RequestCode.breakLow : RequestCode.Statement .breakLow := RequestCode.of_none rfl
theorem RequestCode.breakEnd : RequestCode.Statement .breakEnd := RequestCode.of_none rfl
theorem RequestCode.syncByte (lowNs : Nat) (rest : SyncSamples)
    : RequestCode.Statement (.syncByte lowNs rest) :=
  RequestCode.of_none rfl
theorem RequestCode.frameCompletion (bytes : List LineByte) (last : LineByte)
    : RequestCode.Statement (.frameCompletion bytes last) :=
  RequestCode.of_none rfl
theorem RequestCode.replyEnd : RequestCode.Statement .replyEnd := RequestCode.of_none rfl
theorem RequestCode.identify : RequestCode.Statement .identify := RequestCode.of_some rfl rfl
theorem RequestCode.linkStatus : RequestCode.Statement .linkStatus := RequestCode.of_some rfl rfl
theorem RequestCode.readResetCause : RequestCode.Statement .readResetCause := RequestCode.of_some rfl rfl
theorem RequestCode.resetPart : RequestCode.Statement .resetPart := RequestCode.of_some rfl rfl
theorem RequestCode.setParam (id : Byte) (value : BitVec 32)
    : RequestCode.Statement (.setParam id value) :=
  RequestCode.of_some rfl rfl
theorem RequestCode.getParam (id : Byte) : RequestCode.Statement (.getParam id) := RequestCode.of_some rfl rfl
theorem RequestCode.readSensors : RequestCode.Statement .readSensors := RequestCode.of_some rfl rfl
theorem RequestCode.readWatermarks : RequestCode.Statement .readWatermarks := RequestCode.of_some rfl rfl
theorem RequestCode.readInputs : RequestCode.Statement .readInputs := RequestCode.of_some rfl rfl
theorem RequestCode.setEdge (input : Byte) (code : Byte)
    : RequestCode.Statement (.setEdge input code) :=
  RequestCode.of_some rfl rfl
theorem RequestCode.waterStatus : RequestCode.Statement .waterStatus := RequestCode.of_some rfl rfl
theorem RequestCode.filterStatus : RequestCode.Statement .filterStatus := RequestCode.of_some rfl rfl
theorem RequestCode.filterReset (capacity : BitVec 24)
    : RequestCode.Statement (.filterReset capacity) :=
  RequestCode.of_some rfl rfl
theorem RequestCode.frostStatus : RequestCode.Statement .frostStatus := RequestCode.of_some rfl rfl
theorem RequestCode.defrostStart : RequestCode.Statement .defrostStart := RequestCode.of_some rfl rfl
theorem RequestCode.defrostAbort : RequestCode.Statement .defrostAbort := RequestCode.of_some rfl rfl
theorem RequestCode.defrostStatus : RequestCode.Statement .defrostStatus := RequestCode.of_some rfl rfl
theorem RequestCode.readDefrostHistory (index : Byte)
    : RequestCode.Statement (.readDefrostHistory index) :=
  RequestCode.of_some rfl rfl
theorem RequestCode.iceEnable : RequestCode.Statement .iceEnable := RequestCode.of_some rfl rfl
theorem RequestCode.iceDisable : RequestCode.Statement .iceDisable := RequestCode.of_some rfl rfl
theorem RequestCode.iceForceHarvest : RequestCode.Statement .iceForceHarvest := RequestCode.of_some rfl rfl
theorem RequestCode.iceStatus : RequestCode.Statement .iceStatus := RequestCode.of_some rfl rfl
theorem RequestCode.dispensePortion (tag : Byte) (volume : BitVec 16) (options : Byte)
    : RequestCode.Statement (.dispensePortion tag volume options) :=
  RequestCode.of_some rfl rfl
theorem RequestCode.dispenseCancel (tag : Byte) : RequestCode.Statement (.dispenseCancel tag) :=
  RequestCode.of_some rfl rfl
theorem RequestCode.dispenseStatus : RequestCode.Statement .dispenseStatus := RequestCode.of_some rfl rfl
theorem RequestCode.loadStatus : RequestCode.Statement .loadStatus := RequestCode.of_some rfl rfl
theorem RequestCode.readEvents : RequestCode.Statement .readEvents := RequestCode.of_some rfl rfl
theorem RequestCode.clearEvents (kinds : KindSet) : RequestCode.Statement (.clearEvents kinds) :=
  RequestCode.of_some rfl rfl
theorem RequestCode.setReportEnables (kinds : KindSet) (attn : Byte)
    : RequestCode.Statement (.setReportEnables kinds attn) :=
  RequestCode.of_some rfl rfl
theorem RequestCode.fetchReports (count : Byte) : RequestCode.Statement (.fetchReports count) :=
  RequestCode.of_some rfl rfl
theorem RequestCode.readReportCounts : RequestCode.Statement .readReportCounts := RequestCode.of_some rfl rfl
theorem RequestCode.samplePeriod (channel : Channel) (reading : Temp)
    : RequestCode.Statement (.samplePeriod channel reading) :=
  RequestCode.of_none rfl
theorem RequestCode.switchPinChange (input : SwitchInput) (low : Bool)
    : RequestCode.Statement (.switchPinChange input low) :=
  RequestCode.of_none rfl
theorem RequestCode.debounceExpiry (input : SwitchInput)
    : RequestCode.Statement (.debounceExpiry input) :=
  RequestCode.of_none rfl
theorem RequestCode.countSecond : RequestCode.Statement .countSecond := RequestCode.of_none rfl
theorem RequestCode.claimMade (claimant : Claimant) (target : Option Nat) (charged : Nat) (preemptions : Nat)
    : RequestCode.Statement (.claimMade claimant target charged preemptions) :=
  RequestCode.of_none rfl
theorem RequestCode.claimWithdrawn (claimant : Claimant)
    : RequestCode.Statement (.claimWithdrawn claimant) :=
  RequestCode.of_none rfl
theorem RequestCode.claimReleased (claimant : Claimant)
    : RequestCode.Statement (.claimReleased claimant) :=
  RequestCode.of_none rfl
theorem RequestCode.meterPulse : RequestCode.Statement .meterPulse := RequestCode.of_none rfl
theorem RequestCode.noFlowExpiry : RequestCode.Statement .noFlowExpiry := RequestCode.of_none rfl
theorem RequestCode.settleWindowExpiry : RequestCode.Statement .settleWindowExpiry := RequestCode.of_none rfl
theorem RequestCode.wpuSagEntry : RequestCode.Statement .wpuSagEntry := RequestCode.of_none rfl
theorem RequestCode.wpuSagExit : RequestCode.Statement .wpuSagExit := RequestCode.of_none rfl
theorem RequestCode.leakMinute : RequestCode.Statement .leakMinute := RequestCode.of_none rfl
theorem RequestCode.leakLatchClear : RequestCode.Statement .leakLatchClear := RequestCode.of_none rfl
theorem RequestCode.daySecond : RequestCode.Statement .daySecond := RequestCode.of_none rfl
theorem RequestCode.accumulationMinute : RequestCode.Statement .accumulationMinute := RequestCode.of_none rfl
theorem RequestCode.fillWaterMillilitre : RequestCode.Statement .fillWaterMillilitre := RequestCode.of_none rfl
theorem RequestCode.heatEndAtFest (cause : HeatEnd) (onSeconds : Nat)
    : RequestCode.Statement (.heatEndAtFest cause onSeconds) :=
  RequestCode.of_none rfl
theorem RequestCode.completionAtFest (cause : HeatEnd)
    : RequestCode.Statement (.completionAtFest cause) :=
  RequestCode.of_none rfl
theorem RequestCode.defrostRequest (reason : FestReason) (frost : Nat)
    : RequestCode.Statement (.defrostRequest reason frost) :=
  RequestCode.of_none rfl
theorem RequestCode.imcStateAtDfc (state : IceState)
    : RequestCode.Statement (.imcStateAtDfc state) :=
  RequestCode.of_none rfl
theorem RequestCode.heatSecond : RequestCode.Statement .heatSecond := RequestCode.of_none rfl
theorem RequestCode.evAtDfc (status : ChannelStatus) (value : Option Temp)
    : RequestCode.Statement (.evAtDfc status value) :=
  RequestCode.of_none rfl
theorem RequestCode.heaterOnAtDfc (isOn : Bool) : RequestCode.Statement (.heaterOnAtDfc isOn) :=
  RequestCode.of_none rfl
theorem RequestCode.tHandBack (before : Nat) (after : Nat)
    : RequestCode.Statement (.tHandBack before after) :=
  RequestCode.of_none rfl
theorem RequestCode.dripExpiry : RequestCode.Statement .dripExpiry := RequestCode.of_none rfl
theorem RequestCode.recoveryExpiry : RequestCode.Statement .recoveryExpiry := RequestCode.of_none rfl
theorem RequestCode.retryHoldExpiry : RequestCode.Statement .retryHoldExpiry := RequestCode.of_none rfl
theorem RequestCode.creditInterval : RequestCode.Statement .creditInterval := RequestCode.of_none rfl
theorem RequestCode.imAtImc (status : ChannelStatus) (value : Option Temp)
    : RequestCode.Statement (.imAtImc status value) :=
  RequestCode.of_none rfl
theorem RequestCode.binBeamAtImc (asserted : Bool)
    : RequestCode.Statement (.binBeamAtImc asserted) :=
  RequestCode.of_none rfl
theorem RequestCode.harvestSecond : RequestCode.Statement .harvestSecond := RequestCode.of_none rfl
theorem RequestCode.rakeHomeAtImc (asserted : Bool)
    : RequestCode.Statement (.rakeHomeAtImc asserted) :=
  RequestCode.of_none rfl
theorem RequestCode.rakeSecond : RequestCode.Statement .rakeSecond := RequestCode.of_none rfl
theorem RequestCode.retryTimerExpiry : RequestCode.Statement .retryTimerExpiry := RequestCode.of_none rfl
theorem RequestCode.moldOnAtImc (isOn : Bool) : RequestCode.Statement (.moldOnAtImc isOn) :=
  RequestCode.of_none rfl
theorem RequestCode.rakeOnAtImc (isOn : Bool) : RequestCode.Statement (.rakeOnAtImc isOn) :=
  RequestCode.of_none rfl
theorem RequestCode.fzAtImc (status : ChannelStatus) (value : Option Temp)
    : RequestCode.Statement (.fzAtImc status value) :=
  RequestCode.of_none rfl
theorem RequestCode.dfcStateAtImc (state : DefrostState)
    : RequestCode.Statement (.dfcStateAtImc state) :=
  RequestCode.of_none rfl
theorem RequestCode.grantedAtImc (target : Option Nat)
    : RequestCode.Statement (.grantedAtImc target) :=
  RequestCode.of_none rfl
theorem RequestCode.fillSecond : RequestCode.Statement .fillSecond := RequestCode.of_none rfl
theorem RequestCode.closedAtImc (cause : CloseCause) : RequestCode.Statement (.closedAtImc cause) :=
  RequestCode.of_none rfl
theorem RequestCode.preemptionCountAtImc (count : Nat)
    : RequestCode.Statement (.preemptionCountAtImc count) :=
  RequestCode.of_none rfl
theorem RequestCode.settledAtImc (cause : CloseCause) (total : Nat)
    : RequestCode.Statement (.settledAtImc cause total) :=
  RequestCode.of_none rfl
theorem RequestCode.fillEndAtImc (total : Nat) : RequestCode.Statement (.fillEndAtImc total) :=
  RequestCode.of_none rfl
theorem RequestCode.withdrawnAtImc : RequestCode.Statement .withdrawnAtImc := RequestCode.of_none rfl
theorem RequestCode.millilitreAtImc : RequestCode.Statement .millilitreAtImc := RequestCode.of_none rfl
theorem RequestCode.noWaterHoldExpiry : RequestCode.Statement .noWaterHoldExpiry := RequestCode.of_none rfl
theorem RequestCode.spacingExpiry : RequestCode.Statement .spacingExpiry := RequestCode.of_none rfl
theorem RequestCode.grantedAtDsc : RequestCode.Statement .grantedAtDsc := RequestCode.of_none rfl
theorem RequestCode.millilitreAtDsc : RequestCode.Statement .millilitreAtDsc := RequestCode.of_none rfl
theorem RequestCode.flowSecond : RequestCode.Statement .flowSecond := RequestCode.of_none rfl
theorem RequestCode.closedAtDsc (cause : CloseCause) : RequestCode.Statement (.closedAtDsc cause) :=
  RequestCode.of_none rfl
theorem RequestCode.settledAtDsc (cause : CloseCause) (total : Nat)
    : RequestCode.Statement (.settledAtDsc cause total) :=
  RequestCode.of_none rfl
theorem RequestCode.withdrawnAtDsc : RequestCode.Statement .withdrawnAtDsc := RequestCode.of_none rfl
theorem RequestCode.paddleAssertion : RequestCode.Statement .paddleAssertion := RequestCode.of_none rfl
theorem RequestCode.paddleRelease : RequestCode.Statement .paddleRelease := RequestCode.of_none rfl
theorem RequestCode.recoveryMinute : RequestCode.Statement .recoveryMinute := RequestCode.of_none rfl
theorem RequestCode.loadRequest (load : Load) (duty : Nat)
    : RequestCode.Statement (.loadRequest load duty) :=
  RequestCode.of_none rfl
theorem RequestCode.loadRelease (load : Load) : RequestCode.Statement (.loadRelease load) :=
  RequestCode.of_none rfl
theorem RequestCode.dutyChange (load : Load) (duty : Nat)
    : RequestCode.Statement (.dutyChange load duty) :=
  RequestCode.of_none rfl
theorem RequestCode.dutyPeriodTimer (load : Load) : RequestCode.Statement (.dutyPeriodTimer load) :=
  RequestCode.of_none rfl
theorem RequestCode.railBelowEntry (rail : Nat) : RequestCode.Statement (.railBelowEntry rail) :=
  RequestCode.of_none rfl
theorem RequestCode.railAboveExit (rail : Nat) : RequestCode.Statement (.railAboveExit rail) :=
  RequestCode.of_none rfl
theorem RequestCode.railFallsBack (rail : Nat) : RequestCode.Statement (.railFallsBack rail) :=
  RequestCode.of_none rfl
theorem RequestCode.exitTimerExpiry : RequestCode.Statement .exitTimerExpiry := RequestCode.of_none rfl
theorem RequestCode.eventTaken (event : Event) : RequestCode.Statement (.eventTaken event) :=
  RequestCode.of_none rfl
theorem RequestCode.ageSecond : RequestCode.Statement .ageSecond := RequestCode.of_none rfl
theorem RequestCode.saveRequest : RequestCode.Statement .saveRequest := RequestCode.of_none rfl
theorem RequestCode.writeEnd : RequestCode.Statement .writeEnd := RequestCode.of_none rfl
theorem RequestCode.resetnRise : RequestCode.Statement .resetnRise := RequestCode.of_none rfl
theorem RequestCode.supplyRiseAboveResetLevel : RequestCode.Statement .supplyRiseAboveResetLevel :=
  RequestCode.of_none rfl

end Sys2Proof.Laws
end

