-- ==== Sys2Proof/Tests/Slice0.lean ====
section
/-! SUPPORT. Tests: ill-formed commands, the words and worked examples of the spec, one step each, and
for every statement with hypotheses a state and operands that meet them, clause by clause. A value on
the right of a test comes from the table or example its comment names. -/

open Sys2Proof Sys2Proof.Machine Sys2Proof.Safety

namespace Sys2Proof.Tests

/-! ### Helpers -/

/-- The state after one command. -/
def after (c : Instr) (s : State) : State :=
  match exec c s with
  | .next t => t
  | .fault _ => s
  | .refused _ => s

/-- The part after its first power-on with one thing changed. -/
def onWpu (f : Wpu → Wpu) : State := { State.reset with wpu := f State.reset.wpu }
def onFest (f : Fest → Fest) : State := { State.reset with fest := f State.reset.fest }
def onDfc (f : Dfc → Dfc) : State := { State.reset with dfc := f State.reset.dfc }
def onImc (f : Imc → Imc) : State := { State.reset with imc := f State.reset.imc }
def onDsc (f : Dsc → Dsc) : State := { State.reset with dsc := f State.reset.dsc }
def onLdm (f : Ldm → Ldm) : State := { State.reset with ldm := f State.reset.ldm }
def onRpu (f : Rpu → Rpu) : State := { State.reset with rpu := f State.reset.rpu }
def onLnk (f : Lnk → Lnk) : State := { State.reset with lnk := f State.reset.lnk }

/-- The state `s` with a channel changed. -/
def chan (s : State) (ch : Channel) (f : ChannelRec → ChannelRec) : State :=
  s.withChannel ch (f (s.channel ch))

/-- A channel that is OK with this value. -/
def okAt (v : Temp) (r : ChannelRec) : ChannelRec := { r with status := .ok, value := some v }

/-- The state `s` with a switch input's debounced state set. -/
def pressed (s : State) (i : SwitchInput) (asserted : Bool) : State :=
  s.withSwitch i { getSwitch s.scan.switches i with asserted := asserted, pinLow := asserted }

/-! ### Commands no sender sends: one for each check of WellFormed -/

/-- The rest of a sync byte of 0xF0. -/
def sync0xF0 : SyncSamples :=
  { bit4 := sentBit true, bit5 := sentBit true, bit6 := sentBit true, bit7 := sentBit true,
    stop := sentBit true }
/-- A bit whose second sample disagrees. -/
def disturbed : BitSamples := { first := true, second := false, third := true }

theorem test_syncByte_ill : (Instr.syncByte 0 sync0xF0).wellFormed = false := by decide
theorem test_frameCompletion_ill :
    (Instr.frameCompletion (List.replicate 68 (sentByte 0)) (sentByte 0)).wellFormed = false := by
  decide
theorem test_claimMade_ice_ill :
    (Instr.claimMade .ice none 0 0).wellFormed = false ∧
    (Instr.claimMade .ice (some 59) 0 0).wellFormed = false ∧
    (Instr.claimMade .ice (some 181) 0 0).wellFormed = false ∧
    (Instr.claimMade .ice (some 110) 0 3).wellFormed = false := by decide
theorem test_claimMade_disp_ill :
    (Instr.claimMade .disp (some 19) 0 0).wellFormed = false ∧
    (Instr.claimMade .disp (some 20) 1 0).wellFormed = false ∧
    (Instr.claimMade .disp none 0 1).wellFormed = false := by decide
theorem test_heatEndAtFest_ill : (Instr.heatEndAtFest .temp 2401).wellFormed = false := by decide
theorem test_defrostRequest_ill :
    (Instr.defrostRequest .threshold 16777216).wellFormed = false := by decide
theorem test_channelHandovers_ill :
    (Instr.evAtDfc .ok none).wellFormed = false ∧
    (Instr.imAtImc .ok (some 601)).wellFormed = false ∧
    (Instr.fzAtImc .faultOpen (some (-401))).wellFormed = false := by decide
theorem test_tHandBack_ill :
    (Instr.tHandBack 39999 150000).wellFormed = false ∧
    (Instr.tHandBack 150000 600001).wellFormed = false := by decide
theorem test_grantedAtImc_ill :
    (Instr.grantedAtImc none).wellFormed = false ∧
    (Instr.grantedAtImc (some 59)).wellFormed = false := by decide
theorem test_preemptionCountAtImc_ill :
    (Instr.preemptionCountAtImc 0).wellFormed = false ∧
    (Instr.preemptionCountAtImc 3).wellFormed = false := by decide
theorem test_dscCauses_ill :
    (Instr.closedAtDsc .preempted).wellFormed = false ∧
    (Instr.settledAtDsc .preempted 0).wellFormed = false := by decide
theorem test_duties_ill :
    (Instr.loadRequest .ductHtr 0).wellFormed = false ∧
    (Instr.loadRequest .ductHtr 101).wellFormed = false ∧
    (Instr.dutyChange .ductHtr 101).wellFormed = false ∧
    (Instr.dutyChange .defHtr 49).wellFormed = false := by decide
theorem test_rail_ill :
    (Instr.railBelowEntry 850).wellFormed = false ∧
    (Instr.railAboveExit 900).wellFormed = false ∧
    (Instr.railFallsBack 901).wellFormed = false := by decide
theorem test_sensorRecovered_ill :
    (Instr.eventTaken (.sensorRecovered .fz 601)).wellFormed = false := by decide
theorem test_defrostDone_ill :
    (Instr.eventTaken (.defrostDone .manual .temp 2401 2401 none)).wellFormed = false ∧
    (Instr.eventTaken (.defrostDone .manual .temp 0 4801 none)).wellFormed = false ∧
    (Instr.eventTaken (.defrostDone .manual .temp 0 0 (some 39999))).wellFormed = false := by decide
theorem test_iceEvents_ill :
    (Instr.eventTaken (.harvestDone { freshBatch with charged := 65536 })).wellFormed = false ∧
    (Instr.eventTaken (.harvestDone { freshBatch with preemptions := 3 })).wellFormed = false ∧
    (Instr.eventTaken (.iceStall .park 256)).wellFormed = false ∧
    (Instr.eventTaken (.noWater 20)).wellFormed = false := by decide
theorem test_waterEvents_ill :
    (Instr.eventTaken (.dispenseDone
      { tag := 7, kind := .portion, target := none, charged := 65536, cause := .done,
        warm := false })).wellFormed = false ∧
    (Instr.eventTaken (.leak 65536)).wellFormed = false ∧
    (Instr.eventTaken (.filterStatus .ok 10000000 0)).wellFormed = false ∧
    (Instr.eventTaken (.filterStatus .ok 0 65536)).wellFormed = false := by decide
theorem test_supplyEvents_ill :
    (Instr.eventTaken (.supplySag 6)).wellFormed = false ∧
    (Instr.eventTaken (.supplyRestored 65536)).wellFormed = false ∧
    (Instr.eventTaken (.queueHigh 0 0 0)).wellFormed = false ∧
    (Instr.eventTaken (.queueHigh 33 0 0)).wellFormed = false ∧
    (Instr.eventTaken (.queueHigh 24 256 0)).wellFormed = false ∧
    (Instr.eventTaken (.queueHigh 24 0 256)).wellFormed = false := by decide
/-- The limits themselves are well-formed. -/
theorem test_wellFormed_at_the_limits :
    (Instr.claimMade .ice (some 60) 0 2).wellFormed = true ∧
    (Instr.claimMade .disp (some 2000) 0 0).wellFormed = true ∧
    (Instr.claimMade .disp none 0 0).wellFormed = true ∧
    (Instr.heatEndAtFest .maxTime 2400).wellFormed = true ∧
    (Instr.railBelowEntry 849).wellFormed = true ∧
    (Instr.eventTaken (.noWater 19)).wellFormed = true := by decide

/-! ### The words of the table, and the frames of the line -/

/-- No row of the table has bits, so no word spells a command. -/
theorem test_decodeTableWord : decodeTableWord 8 0x60 = none := by decide
theorem test_withFetchWord : State.reset.withFetchWord 8 0x60 = State.reset := rfl

/-- 09 9.6, the request of the example exchange: DISPENSE PORTION, TAG 2AH, tag 7, 300 mL. -/
theorem test_request_bytes :
    lookupRequest 0x60 [0x07, 0x2C, 0x01, 0x00] = .request (.dispensePortion 7 300 0) ∧
    requestBody 0x2A 0x60 [0x07, 0x2C, 0x01, 0x00] =
      [0x04, 0x60, 0x2A, 0x07, 0x2C, 0x01, 0x00, 0x3E] := by decide
/-- 09 9.6, its reply: OK, tag 7, 300 mL, present position 0, ACTIVE_WAIT, queue length 1. -/
theorem test_reply_bytes :
    replyFrame 0x60 0x2A .ok [0x07, 0x2C, 0x01, 0x01, 0x00, 0x02, 0x01] =
      [0xF0, 0x07, 0xE0, 0x2A, 0x00, 0x07, 0x2C, 0x01, 0x01, 0x00, 0x02, 0x01, 0xB7] := by decide
/-- TABLE 9-5, one request of each owner, written out from its KIND and payload. -/
theorem test_requests_of_each_owner :
    lookupRequest 0x08 [0x2A, 0xFE, 0xFF, 0xFF, 0xFF] = .request (.setParam 0x2A (-2)) ∧
    lookupRequest 0x13 [0x03, 0x02] = .request (.setEdge 3 2) ∧
    lookupRequest 0x22 [0xB0, 0x71, 0x0B] = .request (.filterReset 750000) ∧
    lookupRequest 0x30 [] = .request .frostStatus ∧
    lookupRequest 0x43 [0x02] = .request (.readDefrostHistory 2) ∧
    lookupRequest 0x52 [] = .request .iceForceHarvest ∧
    lookupRequest 0x61 [0x07] = .request (.dispenseCancel 7) ∧
    lookupRequest 0x70 [] = .request .loadStatus ∧
    lookupRequest 0x7A [0xFB, 0xFF, 0x01] = .request (.setReportEnables 0xFFFB 1) := by decide
/-- R159: an unknown code, and a known one with a LEN that is not its own. -/
theorem test_requests_refused :
    lookupRequest 0x05 [] = .badKind ∧ lookupRequest 0xE0 [] = .badKind ∧
    lookupRequest 0x01 [0] = .badLength ∧ lookupRequest 0x60 [7, 44, 1] = .badLength := by decide

/-! ### Worked values of the spec -/

/-- TABLE 1-3: windows with the sums of its rows. -/
theorem test_rounding_TABLE_1_3 :
    formedValue [-181, -181, -181, -180] = -181 ∧ formedValue [-181, -181, -180, -180] = -180 ∧
    formedValue [450, 450, 451, 451] = 451 ∧ formedValue [-181, -180] = -180 ∧
    formedValue [-181, -180, -180] = -180 ∧ formedValue [449, 450, 450] = 450 ∧
    formedValue [-217] = -217 := by decide
/-- 02 R30: the close points of its examples. -/
theorem test_close_points_R30 :
    closePointOf 110 4 = 106 ∧ closePointOf 20 30 = 10 ∧ closePointOf 8 6 = 4 := by decide
/-- 02 R31: the anticipations of its examples. -/
theorem test_anticipation_R31 :
    anticipationOf [4, 6, 5, 3] = 4 ∧ anticipationOf [-3, -2] = 0 ∧
    anticipationOf [30, 30, 30, 29] = 29 := by decide
/-- TABLE 3-5. -/
theorem test_adaptation_TABLE_3_5 :
    adaptedT 150000 900 .temp 600 = 168750 ∧ adaptedT 168750 900 .maxTime 2400 = 126563 ∧
    adaptedT 126563 900 .temp 1200 = 110743 ∧ adaptedT 110743 900 .temp 900 = 110743 ∧
    adaptedT 590000 900 .temp 300 = 600000 ∧ adaptedT 41000 900 .maxTime 2400 = 40000 ∧
    adaptedT 200000 900 .starved 1150 = 200000 := by decide
/-- TABLE 3-4 with 900 s: light below 675 s, heavy above 1,125 s. -/
theorem test_adaptation_limits :
    adaptedT 80000 900 .temp 674 = 90000 ∧ adaptedT 80000 900 .temp 675 = 80000 ∧
    adaptedT 80000 900 .temp 1125 = 80000 ∧ adaptedT 80000 900 .temp 1126 = 70000 := by decide
/-- 02 R37 with 750,000 mL and 180 days: DUE from 675,000 mL or 166 days. -/
theorem test_filter_status_R37 :
    filterStatusOf 674999 750000 165 180 = .ok ∧ filterStatusOf 675000 750000 0 180 = .due ∧
    filterStatusOf 0 750000 166 180 = .due ∧ filterStatusOf 750000 750000 0 180 = .expired ∧
    filterStatusOf 0 750000 180 180 = .expired := by decide
/-- 05 R87: 110 mL at 320. -/
theorem test_freeze_target_R87 : freezeTargetOf 110 320 = 35200 := by decide
/-- 09 R156: nominal low times 5/rate, and a low time between two windows. -/
theorem test_snap_R156 :
    snapRate 520833 = some .r9600 ∧ snapRate 262000 = some .r19200 ∧ snapRate 230000 = none ∧
    snapRate 130208 = some .r38400 ∧ snapRate 86805 = some .r57600 := by decide

/-! ### One step each -/

/-- 10 R169, R170: a power-on at the time 0 with nothing else different leaves `State.reset`, where the
store's check is erased. -/
theorem test_powerOn_clears_the_cycle :
    (after .powerOn (onDfc fun x => { x with state := .heat })).dfc = State.reset.dfc ∧
    (after .powerOn State.reset).ldm = State.reset.ldm ∧
    (after .powerOn State.reset).scan = State.reset.scan ∧
    (after .powerOn State.reset).dsc = State.reset.dsc := by decide
/-- 10 R168, R170: RESETN low holds the part, and nothing is taken until it rises. -/
theorem test_resetLine_holds :
    (after .resetLine State.reset).running = false ∧
    after .identify (after .resetLine State.reset) = after .resetLine State.reset ∧
    (after .resetLine State.reset).lnk.causes.resetLine = true := by decide

/-- 10 R170, TABLE 10-1: RESETN rises after a pin has moved in reset; the flags of both resets show, and the
pin's debounce time runs. -/
theorem test_resetnRise_after_a_pin_moves :
    let t := after .resetnRise (after (.switchPinChange .paddle true) (after .resetLine State.reset))
    t.running = true ∧ t.lnk.causes.powerOn = true ∧ t.lnk.causes.resetLine = true ∧
    (getSwitch t.scan.switches .paddle).timer = some 50 := by decide

/-- An EV channel as at the start of TABLE 1-8. -/
def evStart : State := chan State.reset .ev fun r =>
  { r with status := .ok, window := [-180, -176, -172, -168], value := some (-174), wmin := -210,
           wmax := -168 }
/-- TABLE 1-8, second row. -/
theorem test_sample_valid_TABLE_1_8 :
    ((after (.samplePeriod .ev (-163)) evStart).channel .ev).window = [-176, -172, -168, -163] ∧
    ((after (.samplePeriod .ev (-163)) evStart).channel .ev).value = some (-170) ∧
    ((after (.samplePeriod .ev (-163)) evStart).channel .ev).wmax = -168 := by decide
/-- TABLE 1-8, the third OPEN sample and the sample after it. -/
def evTwoBad : State := chan evStart .ev fun r =>
  { r with window := [-172, -168, -163, -160], value := some (-166), bad := 2, wmax := -166 }
theorem test_sample_open_TABLE_1_8 :
    let r := (after (.samplePeriod .ev (-401)) evTwoBad).channel .ev
    r.status = .faultOpen ∧ r.window = [] ∧ r.value = some (-166) ∧ r.bad = 3 ∧ r.wmin = -400 ∧
      r.wmax = -166 := by decide
/-- TABLE 1-8, READ WATERMARKS in FAULT_OPEN. -/
theorem test_watermarks_TABLE_1_8 :
    let r := (after .readWatermarks (chan evTwoBad .ev fun r =>
      { r with status := .faultOpen, bad := 3, wmin := -400 })).channel .ev
    r.wmin = -400 ∧ r.wmax = -400 := by decide
/-- 01 R11, TABLE 1-5: 50 ms, and 10 s for the bin beam. -/
theorem test_debounce_times :
    (getSwitch (after (.switchPinChange .paddle true) State.reset).scan.switches .paddle).timer
      = some 50 ∧
    (getSwitch (after (.switchPinChange .binBeam true) State.reset).scan.switches .binBeam).timer
      = some 10000 := by decide

/-- 02 R28 with K 2,200: the third pulse makes a millilitre and leaves 800. -/
theorem test_meterPulse_residue :
    (after .meterPulse (onWpu fun w => { w with residue := 2000 })).wpu.residue = 800 ∧
    (after .meterPulse (onWpu fun w => { w with residue := 2000 })).wpu.unclaimed = 1 ∧
    (after .meterPulse (onWpu fun w => { w with residue := 1100 })).wpu.residue = 2100 := by decide
/-- 02 R23: a claim in an idle path outside sag is granted at once. -/
theorem test_claimMade_grants :
    (after (.claimMade .ice (some 110) 0 0) (onWpu fun w => { w with sag := false })).wpu.path
      = .opened ∧
    (after (.claimMade .ice (some 110) 0 0) State.reset).wpu.ice.state = .waiting := by decide

/-- 03 R46: its minute of 705. -/
theorem test_deltaFrost_R46 :
    deltaFrost State.reset.fest 5 45 12 30 0 = 705 ∧
    deltaFrost { State.reset.fest with wFzDoor := 100, wFfDoor := 100, wFill := 10 } 20 60 60 60 1000
      = 23200 := by decide
/-- 03 R46: F at 16,770,000 and the largest minute. -/
theorem test_frost_saturates : satAdd Config.fMax 16770000 23200 = 16777215 := by decide

/-- 04 R64: HEAT entry. -/
theorem test_defrostStart_enters_heat :
    (after .defrostStart State.reset).dfc.state = .heat ∧
    (after .defrostStart State.reset).dfc.cmpInhibit = true ∧
    (after .defrostStart State.reset).dfc.fanEn = false := by decide
/-- 04 R67: 2,400 ON-seconds, and 4,800 wall-seconds. -/
theorem test_heatSecond_limits :
    ((after .heatSecond (onDfc fun x => { x with
      state := .heat, heatTimer := some 1000, heaterOn := true, onSeconds := 2399,
      current := some (openDefrost .manual 0 none) })).dfc.current.map (·.endCause))
        = some (some .maxTime) ∧
    ((after .heatSecond (onDfc fun x => { x with
      state := .heat, heatTimer := some 1000, wallSeconds := 4799,
      current := some (openDefrost .manual 0 none) })).dfc.current.map (·.endCause))
        = some (some .starved) := by decide

/-- 05 R84, R85: the rake at home, and away from it. -/
theorem test_iceEnable :
    (after .iceEnable (pressed State.reset .rakeHome true)).imc.state = .freezing ∧
    (after .iceEnable State.reset).imc.state = .park := by decide
/-- 05 R86: IM at −12.0 °C gives 100 an interval. -/
theorem test_credit_R86 : creditStep .ok (some (-120)) = 100 ∧ creditStep .ok (some 50) = 0 ∧
    creditStep .faultOpen (some (-120)) = 60 := by decide

/-- 06 R108, R109: 19 mL is stored as 20, and the claim is made at once. -/
theorem test_dispensePortion_clamps :
    (after (.dispensePortion 7 19 0) State.reset).dsc.queue.map (·.target) = [some 20] ∧
    (after (.dispensePortion 7 19 0) State.reset).dsc.queue.map (·.state) = [.activeWait] := by
  decide
/-- 06 R120 at its defaults: 25 mL a minute, up to the tank. -/
theorem test_recoveryMinute :
    (after .recoveryMinute State.reset).dsc.c = 25 ∧
    (after .recoveryMinute (onDsc fun x => { x with c := 890 })).dsc.c = 900 := by decide

/-- The entry `e` in the state `st`. -/
def inState (st : LoadState) (e : LoadEntry) : LoadEntry := { e with state := st }
/-- 07 R128: 370 W are ON; MOLD_HTR does not fit, and RAKE_MTR does. -/
theorem test_grant_example_R128 :
    let l := evaluateLoads 0 400
      { defHtr := inState .on (.held 350 100), moldHtr := inState .waiting (.held 180 100),
        rakeMtr := inState .waiting (.held 5 100), fillTubeHtr := inState .on (.held 12 25),
        ductHtr := inState .on (.held 8 30) }
    l.moldHtr.state = .waiting ∧ l.rakeMtr.state = .on ∧ onTotal l = 375 := by decide
/-- 07 R130: BUDGET set to 300. -/
theorem test_return_example_R130 :
    let l := evaluateLoads 0 300 (returnLoads 300
      { defHtr := inState .on (.held 350 100), moldHtr := .held 180 100, rakeMtr := .held 5 100,
        fillTubeHtr := inState .on (.held 12 25), ductHtr := inState .on (.held 8 30) })
    l.defHtr.state = .waiting ∧ l.fillTubeHtr.state = .on ∧ l.ductHtr.state = .on ∧
      onTotal l = 20 := by decide
/-- TABLE 7-5 at 11:00:00: four loads are shed. -/
theorem test_railBelowEntry :
    (after (.railBelowEntry 810) (onLdm fun x => { x with monitor := .normal })).ldm.monitor = .sag ∧
    shedCount
      { defHtr := inState .on (.held 350 100), moldHtr := inState .waiting (.held 180 100),
        rakeMtr := .held 5 100, fillTubeHtr := inState .on (.held 12 25),
        ductHtr := inState .on (.held 8 30) } = 4 := by decide

/-- 07 TABLE 7-2: a release stores the duty change still in flight, and hands the not ON before the ON of
the load the evaluation grants. -/
theorem test_release_TABLE_7_2 :
    let s : State := { (onLdm fun x => { x with
        monitor := .normal
        loads := { x.loads with
          defHtr := inState .waiting (.held 350 100), moldHtr := inState .on (.held 180 100) } }) with
      handovers := [.dutyChange .ductHtr 40] }
    ((after (.loadRelease .ductHtr) s).load .ductHtr).duty = 40 ∧
    (after (.loadRelease .moldHtr) s).handovers
      = [.dutyChange .ductHtr 40, .moldOnAtImc false, .heaterOnAtDfc true] := by decide

/-- A report queue of `n` records. -/
def queued (n : Nat) : State := onRpu fun r =>
  { r with queue := List.replicate n { kind := 5, age := 0, body := [3, 8] } }
/-- TABLE 8-5, steps 2, 8 and 9. -/
theorem test_offers_TABLE_8_5 :
    (after (.eventTaken (.iceState .freezing .fillWait)) (queued 23)).rpu.queue.length = 24 ∧
    (after (.eventTaken (.iceState .freezing .fillWait)) (queued 23)).handovers
      = [.eventTaken (.queueHigh 24 0 0)] ∧
    (after (.eventTaken (.defrostPhase .drip .heat none)) (queued 28)).rpu.statusDrops = 1 ∧
    (after (.eventTaken (.supplySag 4)) (queued 28)).rpu.queue.length = 29 := by decide

/-- 09 R155, R156: a break, its end, and a sync byte at 19,200; a low of 13 bit times at 9,600 is no
sync byte. -/
theorem test_line_walk :
    (after .breakLow State.reset).lnk.receiver = .inBreak ∧
    (after .breakEnd (onLnk fun l => { l with receiver := .inBreak })).lnk.receiver = .sync ∧
    (after (.syncByte 262000 sync0xF0) (onLnk fun l => { l with receiver := .sync })).lnk.rate
      = .r19200 ∧
    (after (.syncByte 1354166 sync0xF0) (onLnk fun l => { l with receiver := .sync })).lnk.sync = 1 ∧
    (after (.syncByte 1354167 sync0xF0) (onLnk fun l => { l with receiver := .sync })).lnk
      = (onLnk fun l => { l with receiver := .sync }).lnk := by decide
/-- 09 R155: 0xA2 stands on the line least significant bit first; a bit whose samples disagree makes a
noise error, a low stop bit a framing error, and the bytes before the error are read. -/
theorem test_three_samples :
    ([(sentByte 0xA2).bit0, (sentByte 0xA2).bit1, (sentByte 0xA2).bit7, (sentByte 0xA2).stop]
      = [sentBit false, sentBit true, sentBit true, sentBit true]) ∧
    readLine [sentByte 0xA2, { sentByte 3 with bit6 := disturbed }, sentByte 9]
      = ([0xA2], some .noise) ∧
    readLine [{ sentByte 3 with stop := sentBit false }] = ([], some .framing) := by decide
/-- 09 9.6: the request of the example reaches DSC. -/
theorem test_frame_9_6 :
    (after (.frameCompletion
        ([0x04, 0x60, 0x2A, 0x07, 0x2C, 0x01, 0x00].map sentByte) (sentByte 0x3E))
      (onLnk fun l => { l with receiver := .body })).handovers = [.dispensePortion 7 300 0] := by
  decide

/-! ### Witnesses: what meets the hypotheses of each statement, clause by clause -/

theorem witness_StepTakesTheFrontCommand :
    ({ State.reset with pending := [.identify, .linkStatus] } : State).pending
      = .identify :: [.linkStatus] := rfl
theorem witness_EmptyQueueStep :
    State.reset.pending = [] ∧
    ({ State.reset with handovers := [.wpuSagEntry] } : State).handovers = .wpuSagEntry :: [] ∧
    dueExpiry { State.reset with now := 1000 } = some (.samplePeriod .fz 0) ∧
    State.reset.handovers = [] ∧ dueExpiry State.reset = none := by decide
theorem witness_HeldPartTakesNothing :
    ({ State.reset with resetnLow := true } : State).running = false ∧
    takenWhileHeld .identify = false := by decide

/-- 350 W and 50 W at a budget of 400 W. -/
theorem witness_StepKeepsLoadsWithinBudget :
    let s : State := { (onLdm fun x => { x with
        monitor := .normal
        loads := { x.loads with
          defHtr := inState .on x.loads.defHtr, moldHtr := inState .on (.held 50 100),
          ductHtr := inState .waiting x.loads.ductHtr } }) with pending := [.loadRelease .moldHtr] }
    LoadsWithinBudget s.ldm ∧ ∃ t, step s = .next t := ⟨by decide, _, rfl⟩
theorem witness_StepKeepsFillApartFromDefrost :
    let s : State := { (onImc fun x => { x with state := .filling }) with
      dfc := { State.reset.dfc with state := .pending },
      pending := [.settledAtImc .closePoint 110] }
    FillApartFromDefrost s ∧ ∃ t, step s = .next t := ⟨by decide, _, rfl⟩
theorem witness_StepKeepsReportQueueSound :
    let s : State := { queued 32 with pending := [.fetchReports 4] }
    ReportQueueSound s.rpu ∧ ∃ t, step s = .next t := ⟨by decide, _, rfl⟩
/-- The entry of a portion with this tag. -/
def portion (tag : Byte) (st : EntryState) : Entry :=
  { freshEntry tag .portion (some 300) false with state := st }
theorem witness_StepKeepsDispenseQueueSound :
    let s : State := { (onDsc fun x => { x with
        c := 900
        queue := [portion 7 .activeWait, portion 8 .queued, portion 9 .queued, portion 10 .queued] })
      with pending := [.paddleAssertion] }
    let held : State := { (onDsc fun x => { x with latch := true, paddle := true }) with
      pending := [.paddleRelease] }
    (DispenseQueueSound held.dsc ∧ ∃ t, step held = .next t) ∧ DispenseQueueSound s.dsc ∧ ∃ t, step s = .next t := ⟨⟨by decide, _, rfl⟩, by decide, _, rfl⟩
theorem witness_StepKeepsCountsInRange :
    let s : State := { (onWpu fun w => { w with residue := 2199 }) with
      fest := { State.reset.fest with t := 600000, e := 65535, fillWater := 1000 },
      imc := { State.reset.imc with fillSeconds := 20 },
      pending := [.meterPulse] }
    CountsInRange s ∧ ∃ t, step s = .next t := ⟨by decide, _, rfl⟩
theorem witness_StepKeepsChannelsSound :
    let s : State := { evTwoBad with pending := [.samplePeriod .ev (-401)] }
    ChannelsSound s.scan.chans ∧ ∃ t, step s = .next t := ⟨by decide, _, rfl⟩

/-- The part in BODY with an empty buffer. -/
def inBody : State := onLnk fun l => { l with receiver := .body }
theorem witness_RequestCodesRoundTrip :
    encodeRequest (.dispensePortion 7 300 0) = some (0x60, [0x07, 0x2C, 0x01, 0x00]) := by decide
theorem witness_AcceptedFrameReachesItsOwner :
    inBody.running = true ∧ inBody.lnk.receiver = .body ∧ inBody.lnk.rxBuffer = [] ∧
    inBody.lnk.replyInProgress = false ∧ encodeRequest .identify = some (0x01, []) ∧
    byteSum [0, 1, 7, 0xF8] = 0 ∧
    [sentByte 0, sentByte 1, sentByte 7] ++ [sentByte 0xF8]
      = ([BitVec.ofNat 8 ([] : List Byte).length, 0x01, 7] ++ [] ++ [0xF8]).map sentByte := by decide
theorem witness_ReplyFrameSumsToZero : (List.replicate 64 (0xFF : Byte)).length ≤ 64 := by decide
/-- Eleven pulses at 2,200 make 5 mL, up to the highest count. -/
theorem witness_PulseRunMetersWholeMillilitres :
    let s := onWpu fun w => { w with used := 9999994 }
    s.running = true ∧ 1000 ≤ s.wpu.meterK ∧ s.wpu.residue < s.wpu.meterK ∧
    s.wpu.used + (s.wpu.residue + 1000 * 11) / s.wpu.meterK ≤ 9999999 := by decide
theorem witness_FormedValueIsTheNearestMean :
    let w : List Int := [-400, 600, 600, 599]
    w ≠ [] ∧ w.length ≤ 4 ∧ ∀ v ∈ w, -400 ≤ v ∧ v ≤ 600 := by decide

theorem witness_ResetsStartThePart :
    let replying := onLnk fun l => { l with replyTimer := some 6, resetAtReplyEnd := true }
    let line : State := { State.reset with resetnLow := true }
    let both : State := { line with supplyLow := true }
    State.reset.resetnLow = false ∧ State.reset.running = true ∧ State.reset.supplyLow = false ∧
    (line.resetnLow = true ∧ line.supplyLow = false ∧ line.running = false) ∧
    (both.resetnLow = true ∧ both.supplyLow = true) ∧
    (({ State.reset with supplyLow := true } : State).supplyLow = true ∧
      ({ State.reset with supplyLow := true } : State).resetnLow = false) ∧
    replying.running = true ∧ replying.lnk.replyTimer = some 6 ∧
    replying.lnk.resetAtReplyEnd = true := by decide
/-- 496,032 ns and 548,245 ns are the ends of the window of 9,600; 548,246 ns is outside it. -/
theorem witness_BreakAndSyncByte :
    let inSync := onLnk fun l => { l with receiver := .sync }
    State.reset.running = true ∧ State.reset.lnk.receiver ≠ .body ∧ inBody.lnk.receiver = .body ∧
    (onLnk fun l => { l with receiver := .inBreak }).lnk.receiver = .inBreak ∧
    inSync.lnk.receiver = .sync ∧
    (95 * 9600 * 496032 ≤ 500000000000 ∧ 500000000000 ≤ 105 * 9600 * 496032) ∧
    (95 * 9600 * 548245 ≤ 500000000000 ∧ 500000000000 ≤ 105 * 9600 * 548245) ∧
    ((true && true && true && true && true) = true ∧ (true && true && true && false) = false) ∧
    (∃ b ∈ [sentBit true, disturbed], ∀ level, b ≠ sentBit level) ∧
    (13 * 1000000000 ≤ 9600 * 1354167 ∧ State.reset.lnk.receiver = .hunt) ∧
    (9600 * 496032 < 13 * 1000000000 ∧ 9600 * 548246 < 13 * 1000000000 ∧
      9600 * 1354166 < 13 * 1000000000) ∧
    (∀ r, 500000000000 < 95 * rateBps r * 548246 ∨ 105 * rateBps r * 548246 < 500000000000) ∧
    ∀ r, 500000000000 < 95 * rateBps r * 1354166 ∨ 105 * rateBps r * 1354166 < 500000000000 :=
  ⟨by decide, by decide, by decide, by decide, by decide, by decide, by decide, by decide,
    by decide, by decide, by decide, by intro r; cases r <;> decide,
    by intro r; cases r <;> decide⟩
theorem witness_FramesDiscardedOrRefused :
    let busy := onLnk fun l => { l with receiver := .body, replyInProgress := true }
    (inBody.running = true ∧ inBody.lnk.receiver = .body ∧
      readLine ([] ++ [sentByte 65]) = ([65], none) ∧
      inBody.lnk.rxBuffer ++ [65] = 65 :: [] ∧ 64 < (65 : Byte).toNat) ∧
    ((∃ b ∈ [sentBit true] ++ [disturbed], ∀ level, b ≠ sentBit level) ∧
      (sentByte 3).bit0 = sentBit true ∧
      ({ sentByte 3 with stop := sentBit false } : LineByte).stop = sentBit false) ∧
    (inBody.lnk.rxBuffer ++ [0, 1, 1, 1] = 0 :: [1, 1, 1] ∧ (0 : Byte).toNat ≤ 64 ∧
      [1, 1, 1].length = (0 : Byte).toNat + 3 ∧ byteSum [0, 1, 1, 1] ≠ 0) ∧
    (busy.running = true ∧ busy.lnk.receiver = .body ∧
      busy.lnk.rxBuffer ++ [0, 1, 0, 0xFF] = 0 :: [1, 0, 0xFF] ∧ byteSum [0, 1, 0, 0xFF] = 0 ∧
      busy.lnk.replyInProgress = true) ∧
    (byteSum [0, 5, 0, 0xFB] = 0 ∧ inBody.lnk.replyInProgress = false ∧ requestLength 5 = none) ∧
    (byteSum [1, 1, 0, 0, 0xFE] = 0 ∧ [1, 0, 0, 0xFE].length = (1 : Byte).toNat + 3 ∧
      requestLength 1 = some 0 ∧ 0 ≠ (1 : Byte).toNat) ∧
    ([1, 0].length < (0 : Byte).toNat + 3 ∧
      readLine ([sentByte 0, sentByte 1] ++ [sentByte 0]) = ([0, 1, 0], none) ∧
      (inBody.lnk.rxBuffer = [] ∧ readLine ([] ++ [{ sentByte 0 with bit0 := disturbed }])
        = ([], some .noise))) := by decide
theorem witness_RepliesEndAndResetPartWaits :
    let s := onLnk fun l => { l with replyTimer := some 6, replyInProgress := true }
    s.running = true ∧ s.lnk.replyTimer = some 6 ∧ s.lnk.resetAtReplyEnd = false := by decide
theorem witness_IdentifyReply : State.reset.running = true := by decide
theorem witness_LinkStatusReply :
    let s := onLnk fun l =>
      { l with framing := 255, noise := 255, check := 255, overrun := 255, sync := 255 }
    s.running = true ∧ s.lnk.framing ≤ 255 ∧ s.lnk.noise ≤ 255 ∧ s.lnk.check ≤ 255 ∧
    s.lnk.overrun ≤ 255 ∧ s.lnk.sync ≤ 255 := by decide
theorem witness_ResetCauseRead :
    State.reset.running = true ∧ State.reset.lnk.causes.powerOn = true := by decide
/-- Ids 9 and 83 are in no list; 10 and 82 are the first and the last. -50 and 50 are the limits of an
offset. -/
theorem witness_ParametersStoreAndAct :
    let normal := onLdm fun x => { x with monitor := .normal }
    let defOn (p : Option DutyPeriod) : State := onLdm fun x => { x with
      loads := { x.loads with defHtr := { x.loads.defHtr with state := .on, period := p } } }
    let tube (d : Nat) : State := onImc fun x => { x with state := .park, tubeDuty := d }
    (State.reset.running = true ∧ paramOf (9 : Byte).toNat = none ∧
      paramOf (83 : Byte).toNat = none) ∧
    (paramOf (10 : Byte).toNat = some (.offset .fz) ∧ actsAtOnce (.offset .fz) = false ∧
      paramOf (82 : Byte).toNat = some .highLevel ∧ actsAtOnce .highLevel = false) ∧
    (paramOf (20 : Byte).toNat = some .meterK ∧ paramOf (22 : Byte).toNat = some .ageLim ∧
      paramOf (60 : Byte).toNat = some .vTank ∧ paramOf (81 : Byte).toNat = some .attnLevel) ∧
    (paramOf (70 : Byte).toNat = some .budget ∧ paramOf (71 : Byte).toNat = some (.rated .defHtr) ∧
      paramOf (75 : Byte).toNat = some (.rated .ductHtr) ∧
      State.reset.ldm.monitor = .sag ∧ normal.ldm.monitor = .normal) ∧
    (paramOf (76 : Byte).toNat = some .defDuty ∧ (State.reset.load .defHtr).state ≠ .on ∧
      ((defOn none).load .defHtr).state = .on ∧ ((defOn none).load .defHtr).period = none ∧
      ((defOn (some ⟨0, 60⟩)).load .defHtr).period ≠ none ∧
      (paramLo .defDuty).toNat < 100 ∧ 100 ≤ (paramHi .defDuty).toNat) ∧
    (paramOf (53 : Byte).toNat = some .tubeDuty ∧ State.reset.imc.state = .off ∧
      (tube 0).imc.state ≠ .off ∧ (tube 0).imc.tubeDuty = 0 ∧ (tube 25).imc.tubeDuty ≠ 0) ∧
    (paramOf (63 : Byte).toNat = some .ductDuty ∧ State.reset.dsc.ductDuty = 30 ∧
      (onDsc fun x => { x with ductDuty := 0 }).dsc.ductDuty = 0) := by decide
theorem witness_StatusRequestsOnlyAnswer :
    State.reset.running = true ∧ (7 : Byte).toNat ≤ 7 ∧ 7 < (8 : Byte).toNat := by decide
theorem witness_FilterStatusReply : State.reset.running = true := by decide

theorem witness_WatermarksAndEdgeCodes :
    State.reset.running = true ∧ 6 ≤ (6 : Byte).toNat ∧
    (5 : Byte).toNat = inputNumber .rakeHome ∧ (0 : Byte).toNat = inputNumber .fzDoor := by decide
/-- The part with EV in this status and with these counts. -/
def evIn (st : ChannelStatus) (bad good : Nat) : State :=
  chan evStart .ev fun r => { r with status := st, bad := bad, good := good }
theorem witness_ValidSamples :
    ((evIn .ok 0 0).running = true ∧ ((evIn .ok 0 0).channel .ev).sampleTimer = some 1000 ∧
      -400 ≤ -400 + ((evIn .ok 0 0).channel .ev).offset ∧
      600 + ((evIn .ok 0 0).channel .ev).offset ≤ 600) ∧
    (State.reset.channel .ev).status = .starting ∧ ((evIn .ok 0 0).channel .ev).status = .ok ∧
    (((evIn .faultOpen 3 1).channel .ev).status = .faultOpen ∧
      ((evIn .faultOpen 3 1).channel .ev).good < 2) ∧
    (((evIn .faultShort 3 2).channel .ev).status = .faultShort ∧
      2 ≤ ((evIn .faultShort 3 2).channel .ev).good) := by decide
theorem witness_OutOfRangeSamples :
    ((evIn .ok 1 0).running = true ∧ ((evIn .ok 1 0).channel .ev).sampleTimer = some 1000 ∧
      (-401 : Temp) + ((evIn .ok 1 0).channel .ev).offset < -400 ∧
      600 < (601 : Temp) + ((evIn .ok 1 0).channel .ev).offset) ∧
    (((evIn .ok 1 0).channel .ev).status = .ok ∧ ((evIn .ok 1 0).channel .ev).bad < 2) ∧
    (((evIn .starting 2 0).channel .ev).status = .starting ∧
      2 ≤ ((evIn .starting 2 0).channel .ev).bad) ∧
    ((evIn .faultOpen 3 0).channel .ev).status = .faultOpen ∧
    ((evIn .faultShort 3 0).channel .ev).status = .faultShort := by decide
theorem witness_SwitchInputsDebounce :
    let held : State := { State.reset with resetnLow := true }
    let timed := after (.switchPinChange .paddle true) State.reset
    held.running = false ∧ State.reset.running = true ∧
    (getSwitch State.reset.scan.switches .paddle).asserted = false ∧
    (getSwitch State.reset.scan.switches .paddle).timer = none ∧
    true ≠ (getSwitch State.reset.scan.switches .paddle).asserted ∧
    (timed.running = true ∧ true ≠ (getSwitch timed.scan.switches .paddle).asserted ∧
      (getSwitch timed.scan.switches .paddle).timer = some 50) ∧
    State.reset.scan.countTimer = some 1000 := by decide

/-- A claim in this state, made at the time `since`. -/
def claimed (st : ClaimState) (since : Nat) (c : Claim) : Claim :=
  { c with state := st, since := some since, target := some 110 }
/-- A grant of `who` toward 110 mL, with `n` mL charged and the close point at 106. -/
def grantOf (who : Claimant) (n : Nat) (cause : Option CloseCause) : Grant :=
  { holder := who, target := some 110, charged := n, closePoint := some 106, time := 0,
    cause := cause }
/-- The path OPEN for `who`, one pulse short of a millilitre. -/
def opened (who : Claimant) (n : Nat) : State := onWpu fun w =>
  let w := setClaim w who { claimed .granted 0 .held with charged := n }
  { w with
    path := .opened, sag := false, grant := some (grantOf who n none), residue := 1200,
    noFlowTimer := some 5000 }
/-- The settle window of `who` after this cause. -/
def settling (who : Claimant) (n : Nat) (cause : CloseCause) : State := onWpu fun w =>
  let w := setClaim w who { claimed .granted 0 .held with charged := n }
  { w with
    path := .settling, sag := false, grant := some (grantOf who n (some cause)), residue := 1200,
    settleTimer := some 1000 }
/-- ICE has waited since 0 and DISP since now, with the path IDLE and no sag. -/
def bothWait (now : Nat) : State :=
  { (onWpu fun w => { w with
      sag := false, ice := claimed .waiting 0 w.ice, disp := claimed .waiting now w.disp }) with
    now := now }

theorem witness_ArbiterDecides :
    let iceOnly := onWpu fun w => { w with sag := false, ice := claimed .waiting 0 w.ice }
    let dispOnly := onWpu fun w => { w with sag := false, disp := claimed .waiting 0 w.disp }
    (opened .ice 0).wpu.path ≠ .idle ∧ State.reset.wpu.sag = true ∧
    (iceOnly.wpu.path = .idle ∧ iceOnly.wpu.sag = false ∧ iceOnly.wpu.ice.state = .waiting ∧
      ¬iceOnly.wpu.disp.state = .waiting) ∧
    (dispOnly.wpu.path = .idle ∧ dispOnly.wpu.sag = false ∧ dispOnly.wpu.disp.state = .waiting ∧
      ¬dispOnly.wpu.ice.state = .waiting) ∧
    ((bothWait 120000).wpu.path = .idle ∧ (bothWait 120000).wpu.sag = false ∧
      (bothWait 120000).wpu.ice.state = .waiting ∧ (bothWait 120000).wpu.disp.state = .waiting ∧
      (bothWait 120000).wpu.ice.since = some 0 ∧ 120000 ≤ (bothWait 120000).now - 0) ∧
    ((bothWait 119999).wpu.ice.since = some 0 ∧ (bothWait 119999).now - 0 < 120000) := by decide
theorem witness_ClaimsAreMade :
    let twice := onWpu fun w => { w with
      path := .opened, grant := some (grantOf .ice 0 none), ice := { w.ice with preemptions := 2 } }
    (opened .ice 0).running = true ∧ (getClaim (opened .ice 0).wpu .ice).state ≠ .none ∧
    ((getClaim (opened .ice 0).wpu .disp).state = .none ∧ (opened .ice 0).wpu.path = .opened ∧
      (opened .ice 0).wpu.grant = some (grantOf .ice 0 none) ∧
      (opened .ice 0).wpu.ice.preemptions < 2) ∧
    ((getClaim State.reset.wpu .disp).state = .none ∧ State.reset.wpu.path ≠ .opened) ∧
    (opened .disp 0).wpu.grant.map (·.holder) ≠ some .ice ∧
    ((getClaim twice.wpu .disp).state = .none ∧ 2 ≤ twice.wpu.ice.preemptions) := by decide
theorem witness_ClaimsEndAndNoFlow :
    (bothWait 0).running = true ∧ (getClaim (bothWait 0).wpu .disp).state = .waiting ∧
    (getClaim State.reset.wpu .disp).state ≠ .waiting ∧
    ((opened .ice 0).running = true ∧ (opened .ice 0).wpu.path = .opened ∧
      (opened .ice 0).wpu.grant = some (grantOf .ice 0 none) ∧
      (getClaim (opened .ice 0).wpu .ice).state = .granted ∧
      (opened .ice 0).wpu.noFlowTimer = some 5000) ∧
    State.reset.wpu.path ≠ .opened := by decide
/-- 1,199 makes no millilitre at 2,200 and 1,200 makes one; 105 mL more one reach the close point. -/
theorem witness_MillilitresAreCharged :
    ((onWpu fun w => { w with residue := 1199 }).wpu.residue + 1000 <
      (onWpu fun w => { w with residue := 1199 }).wpu.meterK) ∧
    ((onWpu fun w => { w with residue := 1200 }).running = true ∧
      (onWpu fun w => { w with residue := 1200 }).wpu.meterK
        ≤ (onWpu fun w => { w with residue := 1200 }).wpu.residue + 1000 ∧
      State.reset.wpu.path = .idle ∧ State.reset.wpu.leakBins = 0 :: List.replicate 9 0) ∧
    ((settling .disp 106 .closePoint).running = true ∧
      (settling .disp 106 .closePoint).wpu.meterK
        ≤ (settling .disp 106 .closePoint).wpu.residue + 1000 ∧
      (settling .disp 106 .closePoint).wpu.grant = some (grantOf .disp 106 (some .closePoint)) ∧
      (settling .disp 106 .closePoint).wpu.path = .settling) ∧
    ((opened .ice 104).wpu.path = .opened ∧ (grantOf .ice 104 none).closePoint = some 106 ∧
      104 + 1 < 106) ∧
    ((opened .ice 105).wpu.path = .opened ∧ (grantOf .ice 105 none).closePoint = some 106 ∧
      106 ≤ 105 + 1) := by decide
theorem witness_SettleWindowEnds :
    let paused (n : Nat) := onWpu fun w => { w with
      path := .settling, grant := some (grantOf .ice n (some .preempted)), settleTimer := some 1000,
      ice := { claimed .waiting 0 w.ice with charged := n } }
    ((paused 105).running = true ∧ (paused 105).wpu.settleTimer = some 1000 ∧
      (paused 105).wpu.grant = some (grantOf .ice 105 (some .preempted)) ∧
      (paused 105).wpu.ice.state = .waiting ∧
      (paused 105).wpu.ice.target.getD 0 - (paused 105).wpu.ice.charged ≤ 5) ∧
    5 < (paused 104).wpu.ice.target.getD 0 - (paused 104).wpu.ice.charged ∧
    ((settling .disp 50 .sag).wpu.settleTimer = some 1000 ∧
      (settling .disp 50 .sag).wpu.grant = some (grantOf .disp 50 (some .sag))) ∧
    (settling .ice 50 .noFlow).wpu.grant = some (grantOf .ice 50 (some .noFlow)) ∧
    ((settling .ice 108 .closePoint).wpu.grant = some (grantOf .ice 108 (some .closePoint)) ∧
      (getClaim (settling .ice 108 .closePoint).wpu .ice).target = some 110) := by decide
theorem witness_SagAtWaterPath :
    (opened .ice 0).running = true ∧ (opened .ice 0).wpu.path = .opened ∧
    (opened .ice 0).wpu.grant = some (grantOf .ice 0 none) ∧ State.reset.wpu.path ≠ .opened := by
  decide
theorem witness_LeakWatchAndFilterAccount :
    let day (n : Nat) := onWpu fun w => { w with daySeconds := n }
    State.reset.running = true ∧ State.reset.wpu.leakTimer = some 60000 ∧
    State.reset.wpu.leakBins = List.replicate 9 0 ++ [0] ∧
    ((day 86398).wpu.dayTimer = some 1000 ∧ (day 86398).wpu.daySeconds < 86399) ∧
    ((day 86399).wpu.dayTimer = some 1000 ∧ (day 86399).wpu.daySeconds = 86399) ∧
    (14 ≤ (14 : Nat) ∧ 30 ≤ State.reset.wpu.ageLim) := by decide

/-- AM at the band's edges, and the three cases of the comparison. -/
theorem witness_AccumulationMinuteAddsFrost :
    let am (v : Temp) := chan State.reset .am (okAt v)
    State.reset.running = true ∧ State.reset.fest.minuteTimer = some 60000 ∧
    (State.reset.channel .am).status ≠ .ok ∧
    (((am 239).channel .am).status = .ok ∧ ((am 239).channel .am).value = some 239) ∧
    ((am 240).channel .am).value = some 240 ∧ ((am 319).channel .am).value = some 319 ∧
    ((am 320).channel .am).value = some 320 ∧
    (onFest fun x => { x with e := 4319 }).fest.backstop
      ≤ (onFest fun x => { x with e := 4319 }).fest.e + 1 ∧
    ((onFest fun x => { x with e := 239, f := 150000 }).fest.t
        ≤ (onFest fun x => { x with e := 239, f := 150000 }).fest.f ∧
      (onFest fun x => { x with e := 239, f := 150000 }).fest.minGap
        ≤ (onFest fun x => { x with e := 239, f := 150000 }).fest.e + 1) ∧
    State.reset.fest.e + 1 < State.reset.fest.minGap := by decide
/-- One row of the five of an adaptation each, at their limits. -/
theorem witness_FrostEventsAdapt :
    let x := State.reset.fest
    let clamped (n : Nat) := max 40000 (min 600000 n)
    State.reset.running = true ∧
    (674 < x.heatTgt * 3 / 4 ∧ 168750 = clamped (x.t + x.t / 8)) ∧
    (x.heatTgt * 5 / 4 < 1126 ∧ 131250 = clamped (x.t - x.t / 8)) ∧
    (x.heatTgt * 3 / 4 ≤ 675 ∧ 1125 ≤ x.heatTgt * 5 / 4 ∧ 150000 = x.t) ∧
    112500 = clamped (x.t - x.t / 4) := by decide

/-- The part with DFC in this state and IMC in that one. -/
def phase (d : DefrostState) (i : IceState) : State :=
  { (onDfc fun x => { x with state := d }) with imc := { State.reset.imc with state := i } }
theorem witness_DefrostsStartAndAbort :
    let inHold := onDfc fun x => { x with holdTimer := some 1800000 }
    ((phase .heat .off).running = true ∧ (phase .heat .off).dfc.state ≠ .watch) ∧
    inHold.dfc.holdTimer ≠ none ∧
    ((phase .watch .filling).dfc.state = .watch ∧ (phase .watch .filling).dfc.holdTimer = none ∧
      (phase .watch .filling).imc.state = .filling) ∧
    ((phase .watch .off).dfc.state = .watch ∧ (phase .watch .off).imc.state ≠ .filling) ∧
    ((phase .pending .freezing).dfc.state = .pending ∧ IceState.freezing ≠ .filling ∧
      (phase .pending .freezing).imc.state ≠ .filling) ∧
    (phase .pending .filling).imc.state = .filling ∧
    ((phase .drip .off).dfc.state = .drip ∧ (phase .recover .off).dfc.state = .recover) := by decide
/-- HEAT with these counts. -/
def heating (fallback : Bool) (on wall : Nat) : State := onDfc fun x => { x with
  state := .heat, heatTimer := some 1000, heaterOn := true, fallback := fallback, onSeconds := on,
  wallSeconds := wall, current := some (openDefrost .manual 0 none) }
theorem witness_HeatSecondsAndLimits :
    let on (s : State) := s.dfc.onSeconds + s.dfc.heaterOn.toNat
    ((heating false 2398 4798).running = true ∧ (heating false 2398 4798).dfc.state = .heat ∧
      (heating false 2398 4798).dfc.heatTimer = some 1000 ∧ on (heating false 2398 4798) < 2400 ∧
      (heating false 2398 4798).dfc.wallSeconds + 1 < 4800) ∧
    (2400 ≤ on (heating false 2399 4799) ∧ (heating false 2399 4799).dfc.fallback = false) ∧
    (1200 ≤ on (heating true 1199 4799) ∧ (heating true 1199 4799).dfc.fallback = true) ∧
    (on (heating true 1198 4799) < 1200 ∧ 4800 ≤ (heating true 1198 4799).dfc.wallSeconds + 1) := by
  decide
/-- A defrost whose HEAT has ended with TEMP, in this state. -/
def closed (d : DefrostState) : State := onDfc fun x => { x with
  state := d, dripTimer := some 300000, recoveryTimer := some 480000,
  current := some { openDefrost .manual 0 none with endCause := some .temp } }
theorem witness_DefrostHandovers :
    ((heating false 0 0).dfc.state = .heat ∧ (heating false 0 0).dfc.fallback = false ∧
      (heating false 0 0).dfc.defTerm ≤ 70 ∧ (69 : Temp) < (heating false 0 0).dfc.defTerm) ∧
    ((heating true 0 0).running = true ∧ (heating true 0 0).dfc.fallback = true) ∧
    ((heating false 1199 0).dfc.onSeconds < 1200 ∧ 1200 ≤ (heating false 1200 0).dfc.onSeconds ∧
      ChannelStatus.faultOpen ≠ .ok) ∧
    ((closed .recover).running = true ∧ (closed .recover).dfc.state = .recover ∧
      (closed .recover).dfc.current
        = some { openDefrost .manual 0 none with endCause := some .temp } ∧
      (-50 : Temp) ≤ -50 ∧ (-50 : Temp) < -49) ∧
    ((phase .watch .off).dfc.state = .watch ∧ (phase .drip .off).dfc.state = .drip ∧
      (phase .heat .off).dfc.state ≠ .drip) := by decide
theorem witness_DripRecoverAndHold :
    ((closed .drip).running = true ∧ (closed .drip).dfc.state = .drip ∧
      (closed .drip).dfc.dripTimer = some 300000 ∧ ((closed .drip).channel .ev).status ≠ .ok) ∧
    (((chan (closed .drip) .ev (okAt (-49))).channel .ev).status = .ok ∧
      ((chan (closed .drip) .ev (okAt (-49))).channel .ev).value = some (-49)) ∧
    (((chan (closed .drip) .ev (okAt (-50))).channel .ev).value = some (-50) ∧
      (closed .drip).dfc.current
        = some { openDefrost .manual 0 none with endCause := some .temp }) ∧
    (closed .recover).dfc.recoveryTimer = some 480000 ∧
    (onDfc fun x => { x with holdTimer := some 1800000 }).dfc.holdTimer = some 1800000 := by decide

/-- The part with IMC in this state. -/
def ice (i : IceState) : State := onImc fun x => { x with state := i }
/-- IMC in this state with this claim view and this batch. -/
def batched (i : IceState) (v : ClaimView) (b : BatchRecord) : State :=
  onImc fun x => { x with state := i, claimView := v, batch := some b }
theorem witness_IceRequests :
    (State.reset.running = true ∧ State.reset.imc.state = .off ∧
      State.reset.switchAsserted .rakeHome = false ∧
      (pressed State.reset .rakeHome true).switchAsserted .rakeHome = true ∧
      (ice .stalled).imc.state = .stalled) ∧
    ((ice .harvestHeat).imc.state = .harvestHeat ∧ (ice .harvestRake).imc.state = .harvestRake) ∧
    ((ice .park).imc.state ≠ .off ∧ (ice .park).imc.state ≠ .stalled ∧
      (ice .park).imc.state ≠ .harvestHeat ∧ (ice .park).imc.state ≠ .harvestRake) ∧
    ((ice .freezing).imc.state = .freezing ∧ (ice .heldFull).imc.state = .heldFull ∧
      (ice .off).imc.state ≠ .freezing ∧ (ice .off).imc.state ≠ .heldFull) ∧
    (ice .filling).imc.state = .filling ∧
    ((batched .fillPaused .waiting freshBatch).imc.state = .fillPaused ∧
      (batched .fillPaused .waiting freshBatch).imc.claimView = .waiting ∧
      (batched .fillPaused .none freshBatch).imc.claimView ≠ .waiting) ∧
    ((batched .fillWait .waiting freshBatch).imc.state = .fillWait ∧
      (batched .fillWait .withdrawing freshBatch).imc.claimView ≠ .waiting) := by decide
/-- FREEZING with this credit toward 35,200, and IM OK at this value. -/
def freezing (credit : Nat) (im : Temp) : State :=
  chan (onImc fun x => { x with
    state := .freezing, credit := credit, creditTimer := some 10000,
    batch := some { freshBatch with freezeTarget := some 35200 } }) .im (okAt im)
/-- HARVEST_HEAT with MOLD_HTR ON and this many seconds. -/
def harvesting (n : Nat) : State := onImc fun x => { x with
  state := .harvestHeat, heatOnSeconds := n, moldOn := true, harvestTimer := some 1000 }
theorem witness_FreezingAndHarvestHeat :
    let goal (s : State) (credit : Nat) : Prop :=
      ∃ b target, s.imc.batch = some b ∧ b.freezeTarget = some target ∧ target ≤ credit
    let ready (status : ChannelStatus) (value : Option Temp) : Prop :=
      status ≠ .ok ∨ ∃ v, value = some v ∧ v ≤ -100
    ((freezing 35120 (-100)).running = true ∧ (freezing 35120 (-100)).imc.state = .freezing ∧
      (freezing 35120 (-100)).imc.creditTimer = some 10000 ∧
      goal (freezing 35120 (-100)) (35120 + 80) ∧ ready .ok (some (-100))) ∧
    ¬goal (freezing 35119 (-100)) (35119 + 80) ∧ ¬ready .ok (some (-99)) ∧ ready .faultOpen none ∧
    ((harvesting 120).imc.state = .harvestHeat ∧ (10 : Temp) ≤ 10 ∧ (9 : Temp) < 10 ∧
      ChannelStatus.faultOpen ≠ .ok ∧ 120 ≤ (harvesting 120).imc.heatOnSeconds ∧
      (harvesting 119).imc.heatOnSeconds < 120) ∧
    ((ice .park).imc.state ≠ .freezing ∧ (ice .park).imc.state ≠ .harvestHeat) ∧
    ((ice .heldFull).imc.state = .heldFull ∧ (ice .park).imc.state ≠ .heldFull) ∧
    ((harvesting 239).running = true ∧ (harvesting 239).imc.harvestTimer = some 1000 ∧
      240 ≤ (harvesting 239).imc.heatOnSeconds + (harvesting 239).imc.moldOn.toNat) ∧
    (120 ≤ (harvesting 119).imc.heatOnSeconds + (harvesting 119).imc.moldOn.toNat ∧
      ((harvesting 119).channel .im).status ≠ .ok) ∧
    ((harvesting 118).imc.heatOnSeconds + (harvesting 118).imc.moldOn.toNat < 120) ∧
    ((harvesting 238).imc.heatOnSeconds + (harvesting 238).imc.moldOn.toNat < 240 ∧
      ((chan (harvesting 238) .im (okAt 0)).channel .im).status = .ok) := by
  refine ⟨⟨by decide, by decide, by decide, ⟨_, 35200, rfl, rfl, by decide⟩,
    Or.inr ⟨-100, rfl, by decide⟩⟩, ?_, ?_, Or.inl (by decide), by decide, by decide, by decide,
    by decide, by decide, by decide, by decide⟩
  · rintro ⟨b, target, hb, ht, hle⟩
    cases hb
    cases ht
    exact absurd hle (by decide)
  · rintro (h | ⟨v, hv, hle⟩)
    · exact h rfl
    · cases hv
      exact absurd hle (by decide)
/-- HARVEST_RAKE with the rake ON for this many seconds. -/
def sweeping (n : Nat) (left disable : Bool) : State := onImc fun x => { x with
  state := .harvestRake, rakeOnSeconds := n, rakeOn := true, leftHome := left,
  disablePending := disable, rakeTimer := some 1000, batch := some freshBatch }
theorem witness_RakeParksAndSweeps :
    let parking (n : Nat) : State := { (sweeping n false false) with
      imc := { (sweeping n false false).imc with state := .park } }
    let retry (r : RakeState) : State := onImc fun x =>
      { x with state := .rakeRetryWait, failed := some r, retryTimer := some 60000 }
    ((parking 18).running = true ∧ (parking 18).imc.state = .park ∧
      (parking 18).imc.rakeTimer = some 1000 ∧ 18 + 1 < 20 ∧ 20 ≤ 19 + 1) ∧
    ((sweeping 2 false false).imc.state = .harvestRake ∧
      (sweeping 2 false false).imc.leftHome = false ∧ 3 ≤ 2 + 1) ∧
    ((sweeping 18 true true).imc.leftHome = true ∧ (sweeping 18 true true).imc.batch = some freshBatch ∧
      (sweeping 18 true true).imc.disablePending = true ∧
      (sweeping 18 true false).imc.disablePending = false) ∧
    ((ice .off).imc.state ≠ .park ∧ (ice .off).imc.state ≠ .harvestRake) ∧
    ((retry .park).imc.state = .rakeRetryWait ∧ (retry .park).imc.retryTimer = some 60000 ∧
      (retry .park).imc.failed = some .park ∧ (retry .park).switchAsserted .rakeHome = false ∧
      (pressed (retry .park) .rakeHome true).switchAsserted .rakeHome = true ∧
      (retry .harvestRake).imc.failed = some .harvestRake) := by decide

/-- A batch with a fill target of 110 mL and this much charged. -/
def filled (n : Nat) : BatchRecord := { freshBatch with fillTarget := some 110, charged := n }
theorem witness_FillDecisions :
    let wanted (s : State) (status : ChannelStatus) (value : Option Temp) : Prop :=
      (status ≠ .ok ∨ ∃ v, value = some v ∧ v ≤ s.imc.startTemp) ∧
        s.dfc.state ≠ .heat ∧ s.dfc.state ≠ .drip ∧ (s.imc.state = .fillWait → s.imc.noWaterTimer = none)
    let wait (v : ClaimView) := batched .fillWait v freshBatch
    let paused (v : ClaimView) (n : Nat) := batched .fillPaused v (filled n)
    ((batched .off .none freshBatch).imc.batch = some freshBatch ∧
      (batched .off .none freshBatch).imc.state ≠ .fillWait ∧
      (batched .off .none freshBatch).imc.state ≠ .fillPaused) ∧
    ((wait .none).imc.state = .fillWait ∧ (wait .none).imc.claimView = .none ∧
      wanted (wait .none) .ok (some (-120)) ∧ ¬wanted (wait .none) .ok (some (-119))) ∧
    ((paused .none 104).imc.batch = some (filled 104) ∧ wanted (paused .none 104) .faultOpen none ∧
      5 < (filled 104).fillTarget.getD 0 - (filled 104).charged ∧
      (filled 105).fillTarget.getD 0 - (filled 105).charged ≤ 5) ∧
    (wanted (wait .waiting) .ok (some (-120)) ∧ ¬wanted (wait .waiting) .ok (some (-119))) ∧
    (wait .granted).imc.claimView = .granted ∧
    (State.reset.running = true ∧
      (onImc fun x => { x with noWaterTimer := some 600000 }).imc.noWaterTimer = some 600000) := by
  have cold : ∀ s : State, s.imc.startTemp = -120 →
      ¬((ChannelStatus.ok ≠ .ok) ∨ ∃ v, (some (-119) : Option Temp) = some v ∧ v ≤ s.imc.startTemp) := by
    rintro s hs (h | ⟨v, hv, hle⟩)
    · exact h rfl
    · cases hv
      rw [hs] at hle
      exact absurd hle (by decide)
  exact ⟨by decide,
    ⟨rfl, rfl, ⟨Or.inr ⟨-120, rfl, by decide⟩, by decide, by decide, fun _ => rfl⟩,
      fun h => cold _ rfl h.1⟩,
    ⟨rfl, ⟨Or.inl (by decide), by decide, by decide, by decide⟩, by decide, by decide⟩,
    ⟨⟨Or.inr ⟨-120, rfl, by decide⟩, by decide, by decide, fun _ => rfl⟩, fun h => cold _ rfl h.1⟩,
    rfl, by decide⟩
/-- FZ has no value yet, so its status alone wants the fill; DRIP forbids it. -/
theorem witness_FillsRunAndPause :
    let s := batched .fillWait .waiting freshBatch
    (s.running = true ∧ s.imc.state = .fillWait ∧ s.imc.claimView = .waiting ∧
      (s.channel .fz).status ≠ .ok ∧ s.dfc.state ≠ .heat ∧ s.dfc.state ≠ .drip ∧
      s.imc.noWaterTimer = none) ∧
    ¬({ s with dfc := { s.dfc with state := .drip } } : State).dfc.state ≠ .drip ∧
    (onImc fun x => { x with fillTimer := some 1000 }).imc.fillTimer = some 1000 ∧
    (ice .filling).imc.state = .filling ∧ CloseCause.closePoint ≠ .sag ∧
    (ice .fillWait).imc.state ≠ .filling := by decide
theorem witness_FillsEnd :
    ((batched .filling .granted (filled 20)).running = true ∧
      (batched .filling .granted (filled 20)).imc.batch = some (filled 20) ∧
      (batched .filling .granted (filled 20)).imc.state = .filling ∧ 20 ≤ (filled 20).charged ∧
      (filled 19).charged < 20) ∧
    ((batched .fillPaused .none (filled 105)).imc.state = .fillPaused ∧
      (batched .fillPaused .none (filled 105)).imc.claimView = .none ∧
      (filled 105).fillTarget.getD 0 - (filled 105).charged ≤ 5 ∧
      5 < (filled 104).fillTarget.getD 0 - (filled 104).charged) ∧
    (batched .fillPaused .granted (filled 0)).imc.claimView = .granted ∧
    (batched .fillPaused .waiting (filled 0)).imc.claimView = .waiting ∧
    (batched .fillWait .granted (filled 0)).imc.state = .fillWait ∧
    ((ice .off).imc.state ≠ .filling ∧ (ice .off).imc.state ≠ .fillPaused ∧
      (ice .off).imc.state ≠ .fillWait) := by decide

/-- The part with this dispense queue. -/
def inQueue (q : List Entry) : State := onDsc fun x => { x with queue := q }
/-- A portion in ACTIVE_FLOW with this valve view and stop cause. -/
def flowing (tag : Byte) (v : ValveView) (stop : Option Completion) : Entry :=
  { portion tag .activeFlow with valve := some v, stopCause := stop }
theorem witness_PortionsAndCancels :
    let three := [portion 1 .activeWait, portion 2 .queued, portion 3 .queued]
    let four := three ++ [portion 4 .queued]
    (State.reset.running = true ∧ (0 : Byte) = 0 ∧ 1 < (2 : Byte).toNat ∧ (1 : Byte).toNat ≤ 1) ∧
    ((inQueue three).dsc.queue.any (fun e => decide (e.tag = 3)) = true) ∧
    ((7 : Byte) ≠ 0 ∧ (inQueue four).dsc.queue.any (fun e => decide (e.tag = 7)) = false ∧
      4 ≤ (inQueue four).dsc.queue.length ∧ (inQueue three).dsc.queue.length < 4) ∧
    (∀ e ∈ (inQueue three).dsc.queue, e.tag ≠ 7) ∧
    ((inQueue three).dsc.queue = [portion 1 .activeWait] ++ portion 2 .queued :: [portion 3 .queued] ∧
      ∀ x ∈ [portion 1 .activeWait] ++ [portion 3 .queued], x.tag ≠ 2) ∧
    ((inQueue three).dsc.queue = portion 1 .activeWait :: [portion 2 .queued, portion 3 .queued] ∧
      (portion 1 .activeWait).state = .activeWait) ∧
    ((flowing 7 .opened none).state = .activeFlow ∧ (flowing 7 .opened none).valve = some .opened ∧
      (flowing 7 .opened none).stopCause = none) ∧
    ((flowing 7 .closed none).valve = some .closed ∧
      (flowing 7 .opened (some .userStop)).stopCause ≠ none) := by decide
theorem witness_ActivationTest :
    let cold : Entry := { portion 7 .queued with chilledOnly := true }
    ((inQueue [portion 7 .queued]).dsc.queue = portion 7 .queued :: [] ∧
      (portion 7 .queued).state = .queued ∧ State.reset.dsc.spacingTimer = none ∧
      State.reset.dsc.latch = false ∧ State.reset.dsc.claimView = .none) ∧
    (onDsc fun x => { x with latch := true }).dsc.latch = true ∧
    (cold.chilledOnly = true ∧ (onDsc fun x => { x with c := 299 }).dsc.c < cold.target.getD 0 ∧
      ¬(onDsc fun x => { x with c := 300 }).dsc.c < cold.target.getD 0) := by decide
theorem witness_DispenseHandovers :
    let waits := inQueue [portion 7 .activeWait]
    let flows (stop : Option Completion) := inQueue [flowing 7 .opened stop]
    (waits.running = true ∧ waits.dsc.queue = portion 7 .activeWait :: [] ∧
      (portion 7 .activeWait).state = .activeWait) ∧
    (∀ e rest, State.reset.dsc.queue = e :: rest → e.state ≠ .activeWait) ∧
    ((flows none).dsc.queue = flowing 7 .opened none :: [] ∧
      (flowing 7 .opened none).state = .activeFlow ∧ (flowing 7 .opened none).stopCause = none) ∧
    (flowing 7 .opened (some .cancelled)).stopCause = some .cancelled ∧
    (∀ e rest, ¬(State.reset.dsc.queue = e :: rest ∧ e.state = .activeFlow)) ∧
    (onDsc fun x => { x with spacingTimer := some 2000 }).dsc.spacingTimer = some 2000 :=
  ⟨by decide, nofun, by decide, by decide, fun _ _ h => (nomatch h.1), by decide⟩
/-- WT at the two temperatures that correct the estimate, and between them. -/
theorem witness_DispenseCountsAndEstimate :
    let open119 (n : Nat) : Entry := { flowing 7 .opened none with openSeconds := n }
    let s := onDsc fun x => { x with queue := [open119 119], flowTimer := some 1000 }
    (s.running = true ∧ s.dsc.queue = open119 119 :: [] ∧ (open119 119).state = .activeFlow ∧
      s.dsc.flowTimer = some 1000 ∧ (open119 119).valve = some .opened) ∧
    (∀ e rest, State.reset.dsc.queue = e :: rest → e.state ≠ .activeFlow) ∧
    (120 ≤ min 120 ((open119 119).openSeconds + 1) ∧ (open119 119).stopCause = none ∧
      min 120 ((open119 118).openSeconds + 1) < 120) ∧
    (State.reset.dsc.minuteTimer = some 60000 ∧ (State.reset.channel .wt).status ≠ .ok) ∧
    (((chan State.reset .wt (okAt 40)).channel .wt).status = .ok ∧
      ((chan State.reset .wt (okAt 40)).channel .wt).value = some 40 ∧
      ((chan State.reset .wt (okAt 41)).channel .wt).value = some 41 ∧
      ((chan State.reset .wt (okAt 99)).channel .wt).value = some 99 ∧
      ((chan State.reset .wt (okAt 100)).channel .wt).value = some 100) :=
  ⟨by decide, nofun, by decide, by decide, by decide⟩
/-- 06 R114, R118: with a press in flight at a DONE completion the latch stays clear, so that the press
starts an entry which its release stops; with PADDLE held at a RUNAWAY_LIMIT completion it is set. -/
theorem test_paddle_at_completion :
    let done (handed : Bool) (cause : Completion) : State := pressed (onDsc fun x => { x with
      paddle := handed, claimView := .granted
      queue := [{ freshEntry 0 .paddle none false with
        state := .activeFlow, valve := some .closed, stopCause := some cause }] }) .paddle true
    let settled (s : State) : State := after (.settledAtDsc .released 40) s
    let again := after .paddleAssertion (settled (done false .done))
    (settled (done false .done)).dsc.latch = false ∧ again.dsc.queue.map (·.state) = [.activeWait] ∧
    (after .paddleRelease again).dsc.last.map (·.cause) = some .userStop ∧
    (settled (done true .runawayLimit)).dsc.latch = true := by decide
theorem witness_PaddlePressAndRelease :
    let paddle (st : EntryState) : Entry := { freshEntry 0 .paddle none false with state := st }
    let flows : Entry := { paddle .activeFlow with valve := some .opened }
    (State.reset.running = true ∧ State.reset.dsc.queue = [] ∧ State.reset.dsc.claimView = .none) ∧
    (onDsc fun x => { x with claimView := .withdrawing }).dsc.claimView ≠ .none ∧
    ((inQueue [portion 7 .activeWait]).dsc.queue = portion 7 .activeWait :: [] ∧
      (portion 7 .activeWait).kind = .portion) ∧
    ((flowing 7 .opened none).kind = .portion ∧ (flowing 7 .opened none).valve = some .opened ∧
      (flowing 7 .opened none).stopCause = none ∧ (flowing 7 .closed none).valve = some .closed) ∧
    ((onDsc fun x => { x with latch := true }).dsc.latch = true ∧ State.reset.dsc.latch = false) ∧
    ((inQueue [paddle .activeWait]).dsc.queue = paddle .activeWait :: [] ∧
      (paddle .activeWait).kind = .paddle ∧ (paddle .activeWait).state = .activeWait) ∧
    (flows.kind = .paddle ∧ flows.state = .activeFlow ∧ flows.valve = some .opened ∧
      flows.stopCause = none) ∧
    (portion 7 .queued).state = .queued := by decide

/-- DEF_HTR ON beside MOLD_HTR waiting, within 400 W and above 349 W. -/
theorem witness_EvaluationGrantsWhatFits :
    let l := { Loads.held with
      defHtr := inState .on (.held 350 100), moldHtr := inState .waiting (.held 180 100) }
    onTotal l ≤ 400 ∧ (getLoad l .ductHtr).state ≠ .waiting ∧ (getLoad l .moldHtr).state = .waiting ∧
    (getLoad (evaluateLoads 0 400 l) .moldHtr).state = .waiting ∧
    (getLoad l .defHtr).state = .on ∧ (getLoad (returnLoads 349 l) .defHtr).state ≠ .on ∧
    loadOrder.idxOf Load.defHtr < loadOrder.idxOf Load.ductHtr ∧
    (onTotal l ≤ 350 ∧ (getLoad (returnLoads 350 l) .defHtr).state = .on) := by decide
theorem witness_LoadRequestsAndDuties :
    let normal := onLdm fun x => { x with monitor := .normal }
    let on (p : Option DutyPeriod) (driven : Bool) : State := onLdm fun x => { x with
      monitor := .normal
      loads := { x.loads with
        ductHtr := { x.loads.ductHtr with state := .on, driven := driven, period := p } } }
    let p : DutyPeriod := { start := 0, duty := 30 }
    (normal.running = true ∧ (normal.load .defHtr).state = .off ∧ normal.ldm.monitor = .normal) ∧
    ((State.reset.load .defHtr).state = .off ∧ State.reset.ldm.monitor = .sag) ∧
    ((State.reset.load .ductHtr).state ≠ .off ∧ (State.reset.load .ductHtr).state = .shed) ∧
    (((on none true).load .ductHtr).state = .on ∧ ((on none true).load .ductHtr).period = none ∧
      100 ≤ 100 ∧ 99 < 100) ∧
    (((on (some p) true).load .ductHtr).period ≠ none ∧
      ((on (some p) true).load .ductHtr).period = some p ∧
      ((on (some p) true).load .ductHtr).driven = true ∧
      ((on (some p) false).load .ductHtr).driven = false) ∧
    (({ State.reset with handovers := [.dutyChange .ductHtr 40] } : State).handovers.find?
        (requestInFlight .ductHtr) = some (.dutyChange .ductHtr 40) ∧
      State.reset.handovers.find? (requestInFlight .ductHtr) = none) := by decide
theorem witness_RailMovesAndSag :
    let normal := onLdm fun x => { x with monitor := .normal }
    let exiting := onLdm fun x => { x with exitTimer := some 2000 }
    ({ State.reset with resetnLow := true } : State).running = false ∧
    (normal.running = true ∧ normal.ldm.monitor = .normal) ∧
    (exiting.running = true ∧ exiting.ldm.monitor = .sag ∧ exiting.ldm.exitTimer = some 2000) := by
  decide

/-- 28 records leave 4 slots, which the reserve of 4 keeps for the alarm class; 27 leave 5. -/
theorem witness_EventsAreTaken :
    State.reset.running = true ∧
    State.reset.rpu.enables.getLsbD (reported (.inputEdge .paddle true)).kind = false ∧
    (State.reset.rpu.enables.getLsbD (reported (.supplySag 4)).kind = true ∧
      (reported (.supplySag 4)).alarm = true ∧ (queued 31).rpu.queue.length + 1 ≤ 32 ∧
      ¬(queued 32).rpu.queue.length + 1 ≤ 32) ∧
    (State.reset.rpu.enables.getLsbD (reported (.iceState .off .off)).kind = true ∧
      (reported (.iceState .off .off)).alarm = false ∧
      (queued 27).rpu.queue.length + (queued 27).rpu.reserve < 32 ∧
      ¬(queued 28).rpu.queue.length + (queued 28).rpu.reserve < 32) ∧
    (queued 23).rpu.queue.length + 1 = (queued 23).rpu.highLevel := by decide
theorem witness_ReportRequests :
    State.reset.running = true ∧ State.reset.rpu.ageTimer = some 1000 ∧ 1 < (2 : Byte).toNat ∧
    (1 : Byte).toNat ≤ 1 := by decide
theorem witness_SavesAreWritten :
    let v := State.reset.store.values
    let busy (more : Bool) := onLnk fun l => { l with writing := some v, savePending := more }
    State.reset.running = true ∧ State.reset.lnk.writing = none ∧ (busy false).lnk.writing ≠ none ∧
    ((busy false).running = true ∧ (busy false).lnk.writing = some v ∧
      (busy false).lnk.savePending = false) ∧
    (busy true).lnk.savePending = true := by decide

end Sys2Proof.Tests
end

section
/-! The formed value of a window (R3): the mean to the nearest tenth, within the bounds of its samples. -/

namespace Sys2Proof.Machine

/-- R3: `v - 1/2 ≤ mean < v + 1/2` for the formed value `v`, cleared of fractions by the factor `2n`. -/
theorem formedValue_nearest {w : List Int} (hw : w ≠ []) :
    2 * w.length * formedValue w - w.length ≤ 2 * w.sum ∧
      2 * w.sum < 2 * w.length * formedValue w + w.length := by
  have hpos : (0 : Int) < 2 * w.length := by
    have := List.length_pos_of_ne_nil hw
    omega
  have hle : 2 * w.length * formedValue w ≤ 2 * w.sum + w.length := Int.mul_ediv_self_le hpos.ne'
  have hlt : 2 * w.sum + w.length < 2 * w.length * formedValue w + 2 * w.length :=
    Int.lt_mul_ediv_self_add hpos
  constructor <;> linarith

/-- R3: a lower bound of the samples is one of the formed value. -/
theorem le_formedValue {w : List Int} (hw : w ≠ []) {lo : Int} (h : ∀ v ∈ w, lo ≤ v) :
    lo ≤ formedValue w := by
  have hpos := List.length_pos_of_ne_nil hw
  have hsum : w.length * lo ≤ w.sum := by simpa using w.card_nsmul_le_sum lo h
  apply Int.le_ediv_of_mul_le (by omega)
  linarith

/-- R3: an upper bound of the samples is one of the formed value, since a half more does not reach the
next tenth. -/
theorem formedValue_le {w : List Int} (hw : w ≠ []) {hi : Int} (h : ∀ v ∈ w, v ≤ hi) :
    formedValue w ≤ hi := by
  have hpos := List.length_pos_of_ne_nil hw
  have hsum : w.sum ≤ w.length * hi := by simpa using w.sum_le_card_nsmul hi h
  apply Int.le_of_lt_add_one
  apply Int.ediv_lt_of_lt_mul (by omega)
  linarith

/-- Settles O16: rounding by floor division, and the samples' bounds carried over to the formed value. -/
theorem formedValueIsTheNearestMean : Obligations.FormedValueIsTheNearestMean := by
  intro w hw _ hrange n
  obtain ⟨hlow, hhigh⟩ := formedValue_nearest hw
  exact ⟨hlow, hhigh, le_formedValue hw fun v hv => (hrange v hv).1,
    formedValue_le hw fun v hv => (hrange v hv).2⟩

end Sys2Proof.Machine
end

section
/-! The reply to FILTER STATUS (R40). -/

namespace Sys2Proof.Machine

/-- R161: a value of two bytes goes low byte first. -/
theorem le_two (n : Nat) : le 2 n = [BitVec.ofNat 8 n, BitVec.ofNat 8 (n / 256)] := rfl

/-- R161: a value of three bytes goes low byte first. -/
theorem le_three (n : Nat) :
    le 3 n = [BitVec.ofNat 8 n, BitVec.ofNat 8 (n / 256), BitVec.ofNat 8 (n / 256 / 256)] := rfl

/-- A running part takes FILTER STATUS by composing its reply from the water path as it stands. -/
theorem exec_filterStatus_of_running {s : State} (hrun : s.running = true) :
    exec .filterStatus s = .next (answer (s.taken .filterStatus) 0x21 .ok (filterPayload s.wpu)) := by
  change execFilterStatus s = _
  rw [execFilterStatus, perform_of_running hrun, State.taken_wpu]

/-- Settles O26: the payload is `filterPayload`, of which only the last byte depends on the status by
cases. -/
theorem filterStatusReply : Obligations.FilterStatusReply := by
  refine ⟨rfl, fun s hrun => ?_⟩
  rw [exec_filterStatus_of_running hrun, filterPayload, le_three, le_three, le_two, le_two]
  cases s.wpu.status with
  | ok => rfl
  | due => rfl
  | expired => rfl

end Sys2Proof.Machine
end

section
/-! The reply to IDENTIFY (R163). -/

namespace Sys2Proof.Machine

/-- R161: a value of one byte is that byte. -/
theorem le_one (n : Nat) : le 1 n = [BitVec.ofNat 8 n] := rfl

/-- R158: a reply composed now goes at the rate now in force. -/
theorem answer_reply_rate (s : State) (kind : Byte) (result : Result) (payload : List Byte) :
    (answer s kind result payload).lnk.reply.map (·.rate) = some s.lnk.rate := rfl

/-- R163: the codes of the part low byte first, then the code of the rate. -/
theorem identifyPayload_eq (rate : Rate) :
    identifyPayload rate = [0x51, 0x2E, 0x3E, 0x01, 0x01, BitVec.ofNat 8 (rateCode rate)] := by
  rw [identifyPayload, le_two, le_two, le_one, le_one]
  rfl

/-- A running part takes IDENTIFY by composing its reply for the rate in force. -/
theorem exec_identify_of_running {s : State} (hrun : s.running = true) :
    exec .identify s
      = .next (answer (s.taken .identify) 0x01 .ok (identifyPayload s.lnk.rate)) := by
  change execIdentify s = _
  rw [execIdentify, perform_of_running hrun, State.taken_lnk]

/-- Settles O21: the payload's last byte is compared rate by rate, and taking the command leaves the
rate of the link as it was. -/
theorem identifyReply : Obligations.IdentifyReply := by
  refine ⟨rfl, fun s hrun => ?_⟩
  rw [exec_identify_of_running hrun]
  constructor
  · rw [identifyPayload_eq]
    cases s.lnk.rate with
    | r9600 => rfl
    | r19200 => rfl
    | r38400 => rfl
    | r57600 => rfl
  · rintro _ ⟨⟩
    rw [answer_reply_rate, State.taken_lnk]

end Sys2Proof.Machine
end

section
/-! The reset cause record over the link (R171). -/

namespace Sys2Proof.Machine

/-- The reset cause record after a read (R171). -/
def clearCauses : ResetCauses :=
  { powerOn := false, supplyLow := false, resetLine := false, linkRequest := false,
    storeDefaulted := false }

/-- TABLE 9-7: the five flags at their weights, the first in bit 0. -/
theorem causesByte_eq (c : ResetCauses) :
    causesByte c = BitVec.ofNat 8 (c.powerOn.toNat + 2 * c.supplyLow.toNat + 4 * c.resetLine.toNat
      + 8 * c.linkRequest.toNat + 16 * c.storeDefaulted.toNat) := by
  refine congrArg (BitVec.ofNat 8) ?_
  simp only [packBits]
  omega

theorem causesByte_clearCauses : causesByte clearCauses = 0 := rfl

/-- R158: a reply composed now is the frame with the TAG of the request in hand, at the rate in force. -/
theorem answer_reply (s : State) (kind : Byte) (result : Result) (payload : List Byte) :
    (answer s kind result payload).lnk.reply =
      some { rate := s.lnk.rate, bytes := replyFrame kind s.lnk.reqTag result payload } := rfl

/-- R171: the reply is composed from the record as it stands, and then the record alone is cleared. -/
theorem readResetCause_eq (s : State) :
    readResetCause s =
      let u := answer s 0x03 .ok [causesByte s.lnk.causes]
      { u with lnk := { u.lnk with causes := clearCauses } } := rfl

theorem readResetCause_reply (s : State) :
    (readResetCause s).lnk.reply = some
      { rate := s.lnk.rate,
        bytes := replyFrame 0x03 s.lnk.reqTag .ok [causesByte s.lnk.causes] } :=
  answer_reply s 0x03 .ok [causesByte s.lnk.causes]

@[simp] theorem readResetCause_causes (s : State) :
    (readResetCause s).lnk.causes = clearCauses := rfl

@[simp] theorem readResetCause_rate (s : State) : (readResetCause s).lnk.rate = s.lnk.rate := rfl

@[simp] theorem readResetCause_reqTag (s : State) :
    (readResetCause s).lnk.reqTag = s.lnk.reqTag := rfl

@[simp] theorem running_readResetCause (s : State) : (readResetCause s).running = s.running := rfl

/-- A running part takes READ RESET CAUSE by its effect. -/
theorem exec_readResetCause_of_running {s : State} (hrun : s.running = true) :
    exec .readResetCause s = .next (readResetCause (s.taken .readResetCause)) :=
  perform_of_running hrun

/-- R171: a second read finds the record clear, so its reply carries 0; neither read touches RPU. -/
theorem exec_readResetCause_twice {s t v : State} (hrun : s.running = true)
    (hfirst : exec .readResetCause s = .next t) (hsecond : exec .readResetCause t = .next v) :
    v.rpu = s.rpu ∧ v.lnk.reply = some
      { rate := s.lnk.rate, bytes := replyFrame 0x03 s.lnk.reqTag .ok [0] } := by
  rw [exec_readResetCause_of_running hrun] at hfirst
  obtain rfl := Host.Outcome.next.inj hfirst
  rw [exec_readResetCause_of_running (by simpa using hrun)] at hsecond
  obtain rfl := Host.Outcome.next.inj hsecond
  constructor
  · simp
  · rw [readResetCause_reply]
    simp [causesByte_clearCauses]

/-- Settles O23: the first read is `readResetCause` with its byte written out by weights, and the second
finds a clear record. -/
theorem resetCauseRead : Obligations.ResetCauseRead := by
  refine ⟨rfl, fun s hrun => ⟨_, rfl, ?_, fun _ _ => exec_readResetCause_twice hrun⟩⟩
  rw [exec_readResetCause_of_running hrun, readResetCause_eq, State.taken_lnk, causesByte_eq]
  rfl

end Sys2Proof.Machine
end

section
/-! How a command runs: the rules that every proof about `exec` and `step` starts from (00_scope.md 0.5). -/

namespace Sys2Proof.Machine

open Sys2Proof Sys2Proof.Safety

/-- A running part takes a command by its effect. -/
theorem perform_next {c : Instr} {s t : State} {f : State → State} (hrun : s.running = true)
    (ht : f (s.taken c) = t) : perform c s f = .next t := by
  rw [perform_of_running hrun, ht]

/-- A running part takes the expiry of a running timer at the due time or later. -/
theorem perform_expiry {c : Instr} {s t : State} {timer : State → Timer}
    {f : Nat → State → State} {due : Nat} (hrun : s.running = true)
    (htimer : timer (s.taken c) = some due)
    (ht : f due ((s.taken c).withNow (max s.now due)) = t) :
    perform c s (fun s => onExpiry (timer s) s f) = .next t := by
  rw [perform_of_running hrun, htimer, onExpiry_some]
  exact congrArg _ ht

theorem step_of_pending {s : State} {c : Instr} {rest : List Instr} (h : s.pending = c :: rest) :
    step s = exec c (s.withPending rest) := by
  rw [step, h]

theorem step_of_internal {s : State} {c : Instr} (h : s.pending = []) (hc : nextInternal s = some c) :
    step s = exec c s := by
  rw [step, h]
  dsimp only
  rw [hc]

theorem step_of_quiet {s : State} (h : s.pending = []) (hn : nextInternal s = none) :
    step s = .next s.tick := by
  rw [step, h]
  dsimp only
  rw [hn]

theorem nextInternal_of_handover {s : State} {c : Instr} {rest : List Instr}
    (h : s.handovers = c :: rest) : nextInternal s = some c := by
  rw [nextInternal, h]

theorem nextInternal_of_none {s : State} (h : s.handovers = []) : nextInternal s = dueExpiry s := by
  rw [nextInternal, h]

/-- Settles O1: `step` looks at the front of the queue first. -/
theorem stepTakesTheFrontCommand : Obligations.StepTakesTheFrontCommand :=
  fun _ _ _ h => step_of_pending h

/-- Settles O2: the three cases of `nextInternal`. -/
theorem emptyQueueStep : Obligations.EmptyQueueStep := by
  intro s h
  refine ⟨fun c rest hc => ?_, fun c hnone hdue => ?_, fun hnone hdue => ?_⟩
  · exact step_of_internal h (nextInternal_of_handover hc)
  · exact step_of_internal h ((nextInternal_of_none hnone).trans hdue)
  · exact step_of_quiet h ((nextInternal_of_none hnone).trans hdue)

/-- Everything that a step can do. -/
theorem step_cases {s t : State} (h : step s = .next t) :
    (∃ c l, exec c (s.withPending l) = .next t) ∨ t = s.tick := by
  cases hp : s.pending with
  | cons c rest => exact .inl ⟨c, rest, step_of_pending hp ▸ h⟩
  | nil =>
    cases hn : nextInternal s with
    | some c => exact .inl ⟨c, s.pending, step_of_internal hp hn ▸ h⟩
    | none => exact .inr (Host.Outcome.next.inj (step_of_quiet hp hn ▸ h)).symm

/-! ### Every command answers (O3), and a held part takes nothing (O4) -/

/-- A command whose effect leaves the queue as it is answers a state that does. -/
theorem perform_answers {c : Instr} {s : State} {f : State → State}
    (hf : ∀ u : State, (f u).pending = u.pending) :
    ∃ t, perform c s f = .next t ∧ t.pending = s.pending := by
  cases hr : s.running with
  | true => exact ⟨_, perform_of_running hr, hf _⟩
  | false => exact ⟨_, perform_of_held hr, rfl⟩

theorem onExpiry_pending {timer : Timer} {s : State} {f : Nat → State → State}
    (hf : ∀ due (u : State), (f due u).pending = u.pending) :
    (onExpiry timer s f).pending = s.pending := by
  cases timer with
  | none => rfl
  | some due => exact hf due _

@[simp] theorem supplyFalls_pending (s : State) : (supplyFalls s).pending = s.pending := by
  unfold supplyFalls
  split <;> simp

/-- Settles O3: each effect leaves the queue as it is, by the frame lemma of its operation. -/
theorem everyCommandAnswersNext : Obligations.EveryCommandAnswersNext := by
  intro c s
  cases c <;> dsimp only [exec]
  case powerOn => exact ⟨_, rfl, by simp⟩
  case supplyLow => exact ⟨_, rfl, by simp⟩
  case resetLine => exact ⟨_, rfl, by simp⟩
  case resetnRise => exact ⟨_, rfl, by split <;> simp⟩
  case supplyRiseAboveResetLevel => exact ⟨_, rfl, by split <;> simp⟩
  case switchPinChange => exact ⟨_, rfl, by simp⟩
  case railBelowEntry | railAboveExit | railFallsBack =>
    exact perform_answers (s := s.withRail _) fun u => by simp
  case samplePeriod | debounceExpiry | countSecond | noFlowExpiry | leakMinute | daySecond
      | accumulationMinute | dripExpiry | recoveryExpiry | retryHoldExpiry | rakeSecond
      | retryTimerExpiry | fillSecond | noWaterHoldExpiry | spacingExpiry | flowSecond
      | recoveryMinute | dutyPeriodTimer | exitTimerExpiry | ageSecond | replyEnd =>
    exact perform_answers fun u => onExpiry_pending fun due u => by simp
  case settleWindowExpiry =>
    refine perform_answers fun u => onExpiry_pending fun due u => ?_
    dsimp only
    split <;> simp
  case heatSecond | creditInterval | harvestSecond =>
    refine perform_answers fun u => onExpiry_pending fun due u => ?_
    split <;> simp
  case imcStateAtDfc | tHandBack | binBeamAtImc | preemptionCountAtImc | fillEndAtImc =>
    refine perform_answers fun u => ?_
    split <;> simp
  all_goals exact perform_answers fun u => by simp

/-- Settles O4: every other command goes through `perform`, which tests that the part runs. -/
theorem heldPartTakesNothing : Obligations.HeldPartTakesNothing := by
  intro c s hheld hc
  cases c <;> dsimp only [exec]
  case powerOn | supplyLow | resetLine | resetnRise | supplyRiseAboveResetLevel => cases hc
  case switchPinChange | railBelowEntry | railAboveExit | railFallsBack => cases hc
  all_goals exact perform_of_held hheld

end Sys2Proof.Machine
end

section
/-! What an invariant of one block needs to be kept by every step: the rules that reduce it to the effects
of the commands. -/

namespace Sys2Proof.Machine

open Sys2Proof Sys2Proof.Safety

/-- The property `P` reads neither the queues, nor the clock, nor the two lines that hold the part. -/
structure ReadsBlocksOnly (P : State → Prop) : Prop where
  withPending : ∀ s l, P s → P (s.withPending l)
  withHandovers : ∀ s l, P s → P (s.withHandovers l)
  withNow : ∀ s n, P s → P (s.withNow n)
  withSupplyLow : ∀ s b, P s → P (s.withSupplyLow b)

/-- `get` reads a component of the state other than the hand-overs in flight and the clock. -/
structure ComponentOnly {α : Type} (get : State → α) : Prop where
  withHandovers : ∀ s l, get (s.withHandovers l) = get s
  withNow : ∀ s n, get (s.withNow n) = get s

section
variable {α : Type} {get : State → α} {s t : State} {c : Instr}

/-- A component that the effect of a command leaves as it is. -/
theorem perform_component {f : State → State} (hget : ComponentOnly get)
    (h : perform c s f = .next t) (hf : ∀ u, get (f u) = get u) : get t = get s := by
  rcases perform_cases h with ⟨-, rfl⟩ | ⟨-, rfl⟩
  · exact (hf _).trans (hget.withHandovers _ _)
  · rfl

theorem perform_expiry_component {timer : State → Timer} {f : Nat → State → State}
    (hget : ComponentOnly get) (h : perform c s (fun s => onExpiry (timer s) s f) = .next t)
    (hf : ∀ due u, get (f due u) = get u) : get t = get s := by
  refine perform_component hget h fun u => ?_
  cases timer u with
  | none => rfl
  | some due => exact (hf _ _).trans (hget.withNow _ _)

end

/-- The five commands that reset the part or let it out of reset (TABLE 10-1). -/
def isReset : Instr → Bool
  | .powerOn | .supplyLow | .resetLine | .resetnRise | .supplyRiseAboveResetLevel => true
  | _ => false

section
variable {P : State → Prop} {s t : State} {c : Instr}

/-- What every command keeps, every step keeps. -/
theorem step_keeps (hP : ReadsBlocksOnly P) (hexec : ∀ c s t, P s → exec c s = .next t → P t)
    (hs : P s) (h : step s = .next t) : P t := by
  rcases step_cases h with ⟨c, l, hc⟩ | rfl
  · exact hexec _ _ _ (hP.withPending _ _ hs) hc
  · exact hP.withNow _ _ hs

theorem perform_keeps {f : State → State} (h : perform c s f = .next t) (hP : ReadsBlocksOnly P)
    (hs : P s) (hf : ∀ u, P u → P (f u)) : P t := by
  rcases perform_cases h with ⟨-, rfl⟩ | ⟨-, rfl⟩
  · exact hf _ (hP.withHandovers _ _ hs)
  · exact hs

theorem onExpiry_keeps {timer : Timer} {f : Nat → State → State} (hP : ReadsBlocksOnly P) (hs : P s)
    (hf : ∀ due u, P u → P (f due u)) : P (onExpiry timer s f) := by
  cases timer with
  | none => exact hs
  | some due => exact hf _ _ (hP.withNow _ _ hs)

theorem perform_expiry_keeps {timer : State → Timer} {f : Nat → State → State}
    (h : perform c s (fun s => onExpiry (timer s) s f) = .next t) (hP : ReadsBlocksOnly P) (hs : P s)
    (hf : ∀ due u, P u → P (f due u)) : P t :=
  perform_keeps h hP hs fun _ hu => onExpiry_keeps hP hu hf

/-- The five resets: a property that every restart establishes, they keep. -/
theorem exec_reset_keeps (hP : ReadsBlocksOnly P) (hrestart : ∀ u causes, P (restart u causes))
    (hc : isReset c = true) (hs : P s) (h : exec c s = .next t) : P t := by
  cases c <;> cases hc <;> cases h
  case powerOn | resetLine => exact hrestart _ _
  case supplyLow =>
    unfold supplyFalls
    split
    · exact hrestart _ _
    · exact hP.withSupplyLow _ _ hs
  case resetnRise | supplyRiseAboveResetLevel =>
    split
    · exact hrestart _ _
    · exact hs

/-- A property of every restart holds where every block is in its state after reset, and after
start-up. -/
theorem restart_keeps (hheld : ∀ u causes, P (resetBlocks u causes))
    (hstart : ∀ u, P u → P (startUp u)) (u : State) (causes : ResetCauses) : P (restart u causes) := by
  unfold restart
  dsimp only
  split
  · exact hstart _ (hheld _ _)
  · exact hheld _ _

/-- The end of a reply, with the reset that may wait for it. -/
theorem endReply_keeps (hrestart : ∀ u causes, P (restart u causes)) (hlnk : ∀ u l, P u → P (u.withLnk l))
    (hs : P s) : P (endReply s) := by
  unfold endReply linkReset
  dsimp only
  split
  · exact hrestart _ _
  · exact hlnk _ _ hs

end

end Sys2Proof.Machine
end

section
/-! The report queue within its slots, and ATTN as its condition gives (R148, R151). -/

namespace Sys2Proof.Machine

open Sys2Proof Sys2Proof.Safety

theorem reportQueueSound_iff (r : Rpu) : ReportQueueSound r ↔
    r.queue.length ≤ 32 ∧ (r.attn = true ↔ r.attnEnable = true ∧ r.attnLevel ≤ r.queue.length) := by
  have hslots : r.queue.length + freeSlots r = 32 ↔ r.queue.length ≤ 32 := by
    simp only [freeSlots, Config.reportSlots_eq]
    omega
  rw [ReportQueueSound, hslots]

/-- An evaluation of ATTN leaves the queue sound, whatever ATTN was. -/
theorem evalAttn_sound {r : Rpu} (h : r.queue.length ≤ 32) : ReportQueueSound (evalAttn r) := by
  rw [reportQueueSound_iff]
  exact ⟨h, by simp [evalAttn]⟩

theorem insertReport_rpu (s : State) (e : Event) :
    (insertReport s e).rpu = evalAttn { s.rpu with queue := s.rpu.queue ++ [reportOf e] } := by
  unfold insertReport
  dsimp only
  split <;> rfl

theorem insertReport_sound {s : State} (e : Event) (h : 1 ≤ freeSlots s.rpu) :
    ReportQueueSound (insertReport s e).rpu := by
  rw [insertReport_rpu]
  apply evalAttn_sound
  simp only [freeSlots, Config.reportSlots_eq] at h
  simp only [List.length_append, List.length_singleton]
  omega

theorem offerReport_sound {s : State} (e : Event) (h : ReportQueueSound s.rpu) :
    ReportQueueSound (offerReport s e).rpu := by
  unfold offerReport
  split <;> split <;> rename_i hfree
  · exact insertReport_sound e hfree
  · exact h
  · exact insertReport_sound e (by omega)
  · exact h

theorem takeEvent_sound {s : State} (e : Event) (h : ReportQueueSound s.rpu) :
    ReportQueueSound (takeEvent s e).rpu := by
  unfold takeEvent
  dsimp only
  split
  · exact offerReport_sound e h
  · exact h

theorem takeAgeSecond_sound {s : State} (due : Nat) (h : ReportQueueSound s.rpu) :
    ReportQueueSound (takeAgeSecond s due).rpu := by
  rw [reportQueueSound_iff] at h ⊢
  simpa [takeAgeSecond] using h

theorem clearEvents_sound {s : State} (kinds : KindSet) (h : ReportQueueSound s.rpu) :
    ReportQueueSound (clearEvents s kinds).rpu := by
  unfold clearEvents
  dsimp only
  split <;> exact h

theorem setReportEnables_sound {s : State} (kinds : KindSet) (attn : Byte)
    (h : ReportQueueSound s.rpu) : ReportQueueSound (setReportEnables s kinds attn).rpu := by
  unfold setReportEnables
  split
  · exact h
  · exact evalAttn_sound ((reportQueueSound_iff _).1 h).1

theorem fetchReports_sound {s : State} (count : Byte) (h : ReportQueueSound s.rpu) :
    ReportQueueSound (fetchReports s count).rpu := by
  refine evalAttn_sound ?_
  have := ((reportQueueSound_iff _).1 h).1
  rw [List.length_drop]
  omega

/-- A parameter of RPU is stored; only a new ATTN_LEVEL has ATTN evaluated. -/
theorem storeParam_reportQueue {s : State} (p : Param) (v : Int) (h : ReportQueueSound s.rpu) :
    ReportQueueSound (storeParam s p v).rpu := by
  cases p
  case reserve | highLevel => exact h
  case attnLevel => exact evalAttn_sound ((reportQueueSound_iff _).1 h).1
  all_goals simpa [storeParam] using h

theorem setParam_reportQueue {s : State} (id : Byte) (value : BitVec 32)
    (h : ReportQueueSound s.rpu) : ReportQueueSound (setParam s id value).rpu := by
  unfold setParam
  split
  · exact h
  · exact storeParam_reportQueue _ _ h

theorem startUp_reportQueue {s : State} (h : ReportQueueSound s.rpu) :
    ReportQueueSound (startUp s).rpu := by
  unfold startUp
  apply takeEvent_sound
  simp only [requestLoad_frame]
  simp only [startTimers, loadValues, State.withRpu_rpu]
  exact h

theorem restart_reportQueue (s : State) (causes : ResetCauses) :
    ReportQueueSound (restart s causes).rpu := by
  refine restart_keeps (P := fun u => ReportQueueSound u.rpu) (fun _ _ => ?_)
    (fun _ => startUp_reportQueue) s causes
  rw [reportQueueSound_iff]
  exact ⟨by simp [resetBlocks, Rpu.held], by simp [resetBlocks, Rpu.held]⟩

theorem readsBlocksOnly_reportQueue : ReadsBlocksOnly fun s => ReportQueueSound s.rpu :=
  ⟨fun _ _ h => h, fun _ _ h => h, fun _ _ h => h, fun _ _ h => h⟩

/-- The commands that write RPU: its own, SET PARAM, the resets, and the end of a reply, which may bring
one. -/
def writesRpu : Instr → Bool
  | .eventTaken _ | .ageSecond | .clearEvents _ | .setReportEnables _ _ | .fetchReports _
  | .readReportCounts | .setParam _ _ | .replyEnd => true
  | c => isReset c

theorem componentOnly_rpu : ComponentOnly State.rpu := ⟨fun _ _ => rfl, fun _ _ => rfl⟩

/-- Every other command leaves RPU as it is. -/
theorem exec_rpu {c : Instr} {s t : State} (hc : writesRpu c = false) (h : exec c s = .next t) :
    t.rpu = s.rpu := by
  cases c
  case powerOn | supplyLow | resetLine | resetnRise | supplyRiseAboveResetLevel => cases hc
  case eventTaken | ageSecond | clearEvents | setReportEnables | fetchReports | readReportCounts
      | setParam | replyEnd => cases hc
  all_goals dsimp only [exec] at h
  case switchPinChange =>
    cases h
    simp
  case railBelowEntry | railAboveExit | railFallsBack =>
    exact (perform_component componentOnly_rpu h fun _ => by simp).trans (by simp)
  case settleWindowExpiry =>
    refine perform_expiry_component componentOnly_rpu h fun _ _ => ?_
    dsimp only
    split <;> simp
  case heatSecond | creditInterval | harvestSecond =>
    refine perform_expiry_component componentOnly_rpu h fun _ _ => ?_
    split <;> simp
  case imcStateAtDfc | tHandBack | binBeamAtImc | preemptionCountAtImc | fillEndAtImc =>
    refine perform_component componentOnly_rpu h fun _ => ?_
    split <;> simp
  all_goals first
    | exact perform_expiry_component componentOnly_rpu h fun _ _ => by simp
    | exact perform_component componentOnly_rpu h fun _ => by simp

/-- The commands of RPU keep its queue sound, and the others leave RPU as it is. -/
theorem exec_keeps_reportQueue (c : Instr) (s t : State) (hs : ReportQueueSound s.rpu)
    (h : exec c s = .next t) : ReportQueueSound t.rpu := by
  cases hc : writesRpu c with
  | false => rwa [exec_rpu hc h]
  | true =>
    have hP := readsBlocksOnly_reportQueue
    cases c
    all_goals first | cases hc; done | skip
    case powerOn | supplyLow | resetLine | resetnRise | supplyRiseAboveResetLevel =>
      exact exec_reset_keeps (P := fun u => ReportQueueSound u.rpu) hP restart_reportQueue rfl hs h
    all_goals dsimp only [exec] at h
    case eventTaken e => exact perform_keeps h hP hs fun _ hu => takeEvent_sound e hu
    case ageSecond => exact perform_expiry_keeps h hP hs fun due _ hu => takeAgeSecond_sound due hu
    case clearEvents kinds => exact perform_keeps h hP hs fun _ hu => clearEvents_sound kinds hu
    case setReportEnables kinds attn =>
      exact perform_keeps h hP hs fun _ hu => setReportEnables_sound kinds attn hu
    case fetchReports count => exact perform_keeps h hP hs fun _ hu => fetchReports_sound count hu
    case readReportCounts => exact perform_keeps h hP hs fun _ hu => hu
    case setParam id value =>
      exact perform_keeps h hP hs fun _ hu => setParam_reportQueue id value hu
    case replyEnd =>
      exact perform_expiry_keeps h hP hs fun _ _ hu =>
        endReply_keeps (P := fun u => ReportQueueSound u.rpu) restart_reportQueue (fun _ _ hu => hu) hu

/-- Settles O7: an invariant of RPU alone, kept command by command. -/
theorem stepKeepsReportQueueSound : Obligations.StepKeepsReportQueueSound :=
  fun _ _ hs h => step_keeps readsBlocksOnly_reportQueue exec_keeps_reportQueue hs h

end Sys2Proof.Machine
end

section
/-! The six channels in range (R1 to R9). -/

namespace Sys2Proof.Machine

open Sys2Proof Sys2Proof.Safety

/-! ### Channels by name -/

theorem channelsSound_iff (c : Channels) :
    ChannelsSound c ↔ ∀ ch, ChannelSound (getChannel c ch) := by
  constructor
  · intro h ch
    exact h _ (by cases ch <;> simp [getChannel, channelList])
  · intro h r hr
    simp only [channelList, List.mem_cons, List.not_mem_nil, or_false] at hr
    rcases hr with rfl | rfl | rfl | rfl | rfl | rfl
    exacts [h .fz, h .ev, h .im, h .ff, h .wt, h .am]

@[simp] theorem getChannel_setChannel_self (c : Channels) (ch : Channel) (r : ChannelRec) :
    getChannel (setChannel c ch r) ch = r := by
  cases ch <;> rfl

theorem getChannel_setChannel_of_ne (c : Channels) {ch ch' : Channel} (r : ChannelRec)
    (h : ch' ≠ ch) : getChannel (setChannel c ch r) ch' = getChannel c ch' := by
  cases ch <;> cases ch' <;> first | rfl | exact absurd rfl h

@[simp] theorem getChannel_mapChannels (f : ChannelRec → ChannelRec) (c : Channels) (ch : Channel) :
    getChannel (mapChannels f c) ch = f (getChannel c ch) := by
  cases ch <;> rfl

theorem setChannel_sound {c : Channels} {ch : Channel} {r : ChannelRec} (hc : ChannelsSound c)
    (hr : ChannelSound r) : ChannelsSound (setChannel c ch r) := by
  rw [channelsSound_iff] at hc ⊢
  intro ch'
  by_cases h : ch' = ch
  · subst h
    rwa [getChannel_setChannel_self]
  · rw [getChannel_setChannel_of_ne _ _ h]
    exact hc ch'

/-! ### Samples -/

/-- A temperature in the range of R1. -/
def TempInRange (v : Int) : Prop := -400 ≤ v ∧ v ≤ 600

theorem classify_of_below {reading offset : Temp} (h : reading + offset < -400) :
    classify reading offset = .outOfRange .openWire := by
  simp [classify, h]

theorem classify_of_above {reading offset : Temp} (h : 600 < reading + offset) :
    classify reading offset = .outOfRange .shorted := by
  have hlow : ¬reading + offset < -400 := not_lt.2 (le_trans (by decide) h.le)
  simp [classify, h, hlow]

theorem classify_of_inRange {reading offset : Temp} (h : TempInRange (reading + offset)) :
    classify reading offset = .valid (reading + offset) := by
  have hlow : ¬reading + offset < -400 := not_lt.2 h.1
  have hhigh : ¬600 < reading + offset := not_lt.2 h.2
  simp [classify, hlow, hhigh]

theorem classify_valid_inRange {reading offset v : Temp} (h : classify reading offset = .valid v) :
    TempInRange v := by
  by_cases hlow : reading + offset < -400
  · simp [classify_of_below hlow] at h
  · by_cases hhigh : 600 < reading + offset
    · simp [classify_of_above hhigh] at h
    · have hr : TempInRange (reading + offset) := ⟨not_lt.1 hlow, not_lt.1 hhigh⟩
      rw [classify_of_inRange hr] at h
      cases h
      exact hr

theorem formedValue_inRange {w : List Temp} (hw : w ≠ []) (h : ∀ v ∈ w, TempInRange v) :
    TempInRange (formedValue w) :=
  ⟨le_formedValue hw fun v hv => (h v hv).1, formedValue_le hw fun v hv => (h v hv).2⟩

/-- A window as the rules keep it: at most four samples, each in range. -/
def WindowSound (w : List Temp) : Prop := w.length ≤ 4 ∧ ∀ v ∈ w, TempInRange v

theorem pushSample_windowSound {w : List Temp} {v : Temp} (hw : WindowSound w) (hv : TempInRange v) :
    WindowSound (pushSample w v) ∧ pushSample w v ≠ [] := by
  obtain ⟨hlen, hmem⟩ := hw
  have hmem' : ∀ x ∈ w.tail, TempInRange x := fun x hx => hmem x (List.mem_of_mem_tail hx)
  rw [pushSample_eq]
  split
  · refine ⟨⟨by simp; omega, fun x hx => ?_⟩, by simp⟩
    rcases List.mem_append.1 hx with hx | hx
    · exact hmem x hx
    · rwa [List.mem_singleton.1 hx]
  · refine ⟨⟨by simp; omega, fun x hx => ?_⟩, by simp⟩
    rcases List.mem_append.1 hx with hx | hx
    · exact hmem' x hx
    · rwa [List.mem_singleton.1 hx]

/-- A channel that forms a value from a sound window is sound, whatever its status and value were. -/
theorem formValue_sound {r : ChannelRec} {w : List Temp} (hw : WindowSound w) (hne : w ≠ [])
    (hbad : r.bad ≤ 3) (hgood : r.good ≤ 3) (hmin : TempInRange r.wmin) (hmax : TempInRange r.wmax) :
    ChannelSound (formValue r w) := by
  have hv := formedValue_inRange hne hw.2
  refine ⟨hw.1, hw.2, ?_, hbad, hgood, ?_, ?_, ?_⟩
  · rintro _ ⟨⟩
    exact hv
  · exact ⟨le_min hmin.1 hv.1, (min_le_left _ _).trans hmin.2⟩
  · exact ⟨hmax.1.trans (le_max_left _ _), max_le hmax.2 hv.2⟩
  · simp [formValue]

theorem enterFault_sound {r : ChannelRec} (k : FaultKind)
    (hvalue : ∀ v ∈ r.value, TempInRange v) (hbad : r.bad ≤ 3) (hmin : TempInRange r.wmin)
    (hmax : TempInRange r.wmax) : ChannelSound (enterFault r k) := by
  cases k with
  | openWire => exact ⟨by simp [enterFault, pinWatermark], by simp [enterFault, pinWatermark],
      hvalue, hbad, by simp [enterFault, pinWatermark], by simp [enterFault, pinWatermark], hmax,
      by simp [enterFault, pinWatermark, faultStatus]⟩
  | shorted => exact ⟨by simp [enterFault, pinWatermark], by simp [enterFault, pinWatermark],
      hvalue, hbad, by simp [enterFault, pinWatermark], hmin, by simp [enterFault, pinWatermark],
      by simp [enterFault, pinWatermark, faultStatus]⟩

theorem missSample_sound {ch : Channel} {r : ChannelRec} (k : FaultKind) (h : ChannelSound r) :
    ChannelSound (missSample ch r k).record := by
  obtain ⟨hlen, hmem, hvalue, hbad, hgood, hmin, hmax, hok⟩ := h
  unfold missSample
  dsimp only
  split
  · exact enterFault_sound k hvalue (by simp) hmin hmax
  · exact ⟨hlen, hmem, hvalue, by dsimp only; omega, hgood, hmin, hmax, hok⟩

theorem faultedSample_sound {ch : Channel} {r : ChannelRec} {x : Sample} (h : ChannelSound r)
    (hstatus : r.status ≠ .ok) (hx : ∀ v, x = .valid v → TempInRange v) :
    ChannelSound (faultedSample ch r x).record := by
  obtain ⟨hlen, hmem, hvalue, hbad, hgood, hmin, hmax, -⟩ := h
  cases x with
  | valid v =>
    obtain ⟨hw, hne⟩ := pushSample_windowSound ⟨hlen, hmem⟩ (hx v rfl)
    simp only [faultedSample]
    split
    · exact formValue_sound hw hne (by simp) (by simp) hmin hmax
    · exact ⟨hw.1, hw.2, hvalue, hbad, by dsimp only; omega, hmin, hmax, fun h => absurd h hstatus⟩
  | outOfRange k =>
    simp only [faultedSample]
    split
    · exact ⟨by simp, by simp, hvalue, hbad, by simp, hmin, hmax, fun h => absurd h hstatus⟩
    · exact enterFault_sound k hvalue hbad hmin hmax

theorem sampleEffect_sound {ch : Channel} {r : ChannelRec} {x : Sample} (h : ChannelSound r)
    (hx : ∀ v, x = .valid v → TempInRange v) : ChannelSound (sampleEffect ch r x).record := by
  obtain ⟨hlen, hmem, -, -, hgood, hmin, hmax, -⟩ := id h
  cases hs : r.status with
  | starting =>
    cases x with
    | valid v =>
      have hv := hx v rfl
      simp only [sampleEffect, hs]
      exact formValue_sound ⟨by simp, by simpa using hv⟩ (by simp) (by simp) hgood hmin hmax
    | outOfRange k =>
      simp only [sampleEffect, hs]
      exact missSample_sound k h
  | ok =>
    cases x with
    | valid v =>
      obtain ⟨hw, hne⟩ := pushSample_windowSound ⟨hlen, hmem⟩ (hx v rfl)
      simp only [sampleEffect, hs]
      exact formValue_sound hw hne (by simp) hgood hmin hmax
    | outOfRange k =>
      simp only [sampleEffect, hs]
      exact missSample_sound k h
  | faultOpen =>
    simp only [sampleEffect, hs]
    exact faultedSample_sound h (by simp [hs]) hx
  | faultShort =>
    simp only [sampleEffect, hs]
    exact faultedSample_sound h (by simp [hs]) hx

theorem takeSample_chans (s : State) (ch : Channel) (reading : Temp) (due : Nat) :
    (takeSample s ch reading due).scan.chans = setChannel s.scan.chans ch
      { (sampleEffect ch (s.channel ch) (classify reading (s.channel ch).offset)).record with
        sampleTimer := some (due + Config.second), reading := reading } := by
  unfold takeSample
  dsimp only
  repeat' split
  all_goals simp [State.withChannel]

theorem takeSample_channels {s : State} (ch : Channel) (reading : Temp) (due : Nat)
    (h : ChannelsSound s.scan.chans) : ChannelsSound (takeSample s ch reading due).scan.chans := by
  rw [takeSample_chans]
  exact setChannel_sound h (sampleEffect_sound ((channelsSound_iff _).1 h ch)
    fun _ hv => classify_valid_inRange hv)

/-! ### Watermarks, parameters and resets -/

theorem resetWatermarks_sound {r : ChannelRec} (h : ChannelSound r) :
    ChannelSound (resetWatermarks r) := by
  obtain ⟨hlen, hmem, hvalue, hbad, hgood, -, -, hok⟩ := h
  unfold resetWatermarks
  dsimp only
  split <;> exact ⟨hlen, hmem, hvalue, hbad, hgood, by simp [pinWatermark], by simp [pinWatermark], hok⟩

theorem mapChannels_sound {c : Channels} {f : ChannelRec → ChannelRec} (h : ChannelsSound c)
    (hf : ∀ r, ChannelSound r → ChannelSound (f r)) : ChannelsSound (mapChannels f c) := by
  rw [channelsSound_iff] at h ⊢
  intro ch
  rw [getChannel_mapChannels]
  exact hf _ (h ch)

/-- Only an offset is stored in a channel. -/
theorem storeParam_chans_of_ne {p : Param} (s : State) (v : Int) (hp : ∀ ch, p ≠ .offset ch) :
    (storeParam s p v).scan.chans = s.scan.chans := by
  cases p
  case offset ch => exact absurd rfl (hp ch)
  all_goals simp [storeParam]

theorem storeParam_channels {s : State} (p : Param) (v : Int) (h : ChannelsSound s.scan.chans) :
    ChannelsSound (storeParam s p v).scan.chans := by
  by_cases hp : ∃ ch, p = .offset ch
  · obtain ⟨ch, rfl⟩ := hp
    exact setChannel_sound h ((channelsSound_iff _).1 h ch)
  · rwa [storeParam_chans_of_ne s v fun ch hch => hp ⟨ch, hch⟩]

theorem setParam_channels {s : State} (id : Byte) (value : BitVec 32)
    (h : ChannelsSound s.scan.chans) : ChannelsSound (setParam s id value).scan.chans := by
  unfold setParam
  split
  · exact h
  · exact storeParam_channels _ _ h

theorem held_channelSound (reading : Temp) : ChannelSound (.held reading) :=
  ⟨by simp [ChannelRec.held], by simp [ChannelRec.held], by simp [ChannelRec.held],
    by simp [ChannelRec.held], by simp [ChannelRec.held], by simp [ChannelRec.held],
    by simp [ChannelRec.held], by simp [ChannelRec.held]⟩

theorem startUp_chans (s : State) : (startUp s).scan.chans =
    mapChannels (fun r => { r with sampleTimer := some (s.now + Config.second) }) s.scan.chans := by
  simp [startUp, startTimers, startScan, loadValues]

theorem startUp_channels {s : State} (h : ChannelsSound s.scan.chans) :
    ChannelsSound (startUp s).scan.chans := by
  rw [startUp_chans]
  exact mapChannels_sound h fun _ hr => hr

theorem restart_channels (s : State) (causes : ResetCauses) :
    ChannelsSound (restart s causes).scan.chans := by
  refine restart_keeps (P := fun u => ChannelsSound u.scan.chans) (fun u _ => ?_)
    (fun _ => startUp_channels) s causes
  rw [channelsSound_iff]
  intro ch
  simp only [resetBlocks, heldScan, getChannel_mapChannels]
  exact held_channelSound _

/-! ### Every command -/

/-- The commands that write a channel. -/
def writesChannels : Instr → Bool
  | .samplePeriod _ _ | .readWatermarks | .setParam _ _ | .replyEnd => true
  | c => isReset c

theorem componentOnly_chans : ComponentOnly fun s => s.scan.chans := ⟨fun _ _ => rfl, fun _ _ => rfl⟩

theorem readsBlocksOnly_channels : ReadsBlocksOnly fun s => ChannelsSound s.scan.chans :=
  ⟨fun _ _ h => h, fun _ _ h => h, fun _ _ h => h, fun _ _ h => h⟩

@[simp] theorem changeSwitch_chans (s : State) (i : SwitchInput) :
    (changeSwitch s i).scan.chans = s.scan.chans := by
  unfold changeSwitch
  dsimp only
  split <;> simp [State.withSwitch]

@[simp] theorem setEdge_chans (s : State) (input code : Byte) :
    (setEdge s input code).scan.chans = s.scan.chans := by
  unfold setEdge
  split <;> simp [State.withSwitch]

@[simp] theorem takeCountSecond_chans (s : State) (due : Nat) :
    (takeCountSecond s due).scan.chans = s.scan.chans := rfl

@[simp] theorem takeMinute_chans (s : State) (due : Nat) :
    (takeMinute s due).scan.chans = s.scan.chans := by
  unfold takeMinute handRequest
  dsimp only
  split <;> simp

/-- Every other command leaves the channels as they are. -/
theorem exec_chans {c : Instr} {s t : State} (hc : writesChannels c = false)
    (h : exec c s = .next t) : t.scan.chans = s.scan.chans := by
  cases c
  case powerOn | supplyLow | resetLine | resetnRise | supplyRiseAboveResetLevel => cases hc
  case samplePeriod | readWatermarks | setParam | replyEnd => cases hc
  all_goals dsimp only [exec] at h
  case switchPinChange =>
    cases h
    simp [State.withSwitch]
  case railBelowEntry | railAboveExit | railFallsBack =>
    exact (perform_component componentOnly_chans h fun _ => by simp).trans (by simp)
  case settleWindowExpiry =>
    refine perform_expiry_component componentOnly_chans h fun _ _ => ?_
    dsimp only
    split <;> simp
  case heatSecond | creditInterval | harvestSecond =>
    refine perform_expiry_component componentOnly_chans h fun _ _ => ?_
    split <;> simp
  case imcStateAtDfc | tHandBack | binBeamAtImc | preemptionCountAtImc | fillEndAtImc =>
    refine perform_component componentOnly_chans h fun _ => ?_
    split <;> simp
  all_goals first
    | exact perform_expiry_component componentOnly_chans h fun _ _ => by simp
    | exact perform_component componentOnly_chans h fun _ => by simp

theorem exec_keeps_channels (c : Instr) (s t : State) (hs : ChannelsSound s.scan.chans)
    (h : exec c s = .next t) : ChannelsSound t.scan.chans := by
  cases hc : writesChannels c with
  | false => rwa [exec_chans hc h]
  | true =>
    have hP := readsBlocksOnly_channels
    cases c
    all_goals first | cases hc; done | skip
    case powerOn | supplyLow | resetLine | resetnRise | supplyRiseAboveResetLevel =>
      exact exec_reset_keeps (P := fun u => ChannelsSound u.scan.chans) hP restart_channels rfl hs h
    all_goals dsimp only [exec] at h
    case samplePeriod ch reading =>
      exact perform_expiry_keeps h hP hs fun due _ hu => takeSample_channels ch reading due hu
    case readWatermarks =>
      exact perform_keeps h hP hs fun _ hu => mapChannels_sound hu fun _ => resetWatermarks_sound
    case setParam id value =>
      exact perform_keeps h hP hs fun _ hu => setParam_channels id value hu
    case replyEnd =>
      exact perform_expiry_keeps h hP hs fun _ _ hu => endReply_keeps
        (P := fun u => ChannelsSound u.scan.chans) restart_channels (fun _ _ hu => hu) hu

/-- Settles O10: a sample keeps its channel sound in each status, and nothing else writes one but the
watermark reset, an offset and a reset. -/
theorem stepKeepsChannelsSound : Obligations.StepKeepsChannelsSound :=
  fun _ _ hs h => step_keeps readsBlocksOnly_channels exec_keeps_channels hs h

end Sys2Proof.Machine
end

section
/-! What the operations of IMC do to its state and its fill seconds, and the exclusion of FILLING and a
defrost that heats or drips (R63, R82). -/

namespace Sys2Proof.Machine

open Sys2Proof Sys2Proof.Safety

/-! ### IMC -/

/-- From `x` to `y` IMC has not entered FILLING, and its fill seconds stand or are 0. -/
structure IceKept (x y : Imc) : Prop where
  state : y.state = .filling → x.state = .filling
  seconds : y.fillSeconds = x.fillSeconds ∨ y.fillSeconds = 0

theorem IceKept.of_eq {x y : Imc} (hstate : y.state = x.state)
    (hseconds : y.fillSeconds = x.fillSeconds) : IceKept x y :=
  ⟨fun h => hstate ▸ h, .inl hseconds⟩

theorem IceKept.refl (x : Imc) : IceKept x x := .of_eq rfl rfl

theorem IceKept.trans {x y z : Imc} (h : IceKept x y) (h' : IceKept y z) : IceKept x z := by
  refine ⟨fun hz => h.state (h'.state hz), ?_⟩
  rcases h'.seconds with hs | hs
  · rw [hs]
    exact h.seconds
  · exact .inr hs

/-- A change of other fields of IMC comes before. -/
theorem IceKept.after {x y z : Imc} (h : IceKept y z) (hstate : y.state = x.state)
    (hseconds : y.fillSeconds = x.fillSeconds) : IceKept x z :=
  (IceKept.of_eq hstate hseconds).trans h

theorem changeIce_kept (s : State) {new : IceState} (h : new ≠ .filling) :
    IceKept s.imc (changeIce s new).imc := by
  rw [changeIce_eq]
  exact ⟨fun hn => absurd hn h, .inl rfl⟩

theorem onBatch_kept (s : State) (f : BatchRecord → BatchRecord) :
    IceKept s.imc (onBatch s f).imc := .of_eq rfl rfl

theorem openBatch_kept (s : State) (b : BatchRecord) : IceKept s.imc (openBatch s b).imc :=
  ⟨id, .inr rfl⟩

theorem enterFreezing_kept (s : State) : IceKept s.imc (enterFreezing s).imc := by
  rw [enterFreezing_eq]
  exact ⟨nofun, .inl rfl⟩

theorem enterPark_kept (s : State) : IceKept s.imc (enterPark s).imc := by
  unfold enterPark
  dsimp only
  split
  · exact (changeIce_kept s (by decide)).trans (enterFreezing_kept _)
  · exact (changeIce_kept (new := .park) s (by decide)).trans (.of_eq rfl rfl)

theorem enterHarvestHeat_kept (s : State) : IceKept s.imc (enterHarvestHeat s).imc := by
  rw [enterHarvestHeat_eq]
  exact ⟨nofun, .inl rfl⟩

theorem enterHarvestRake_kept (s : State) : IceKept s.imc (enterHarvestRake s).imc := by
  refine .trans ?_ (changeIce_kept _ (by decide))
  exact .of_eq rfl rfl

theorem endHarvestHeat_kept (s : State) : IceKept s.imc (endHarvestHeat s).imc := by
  rw [endHarvestHeat_eq]
  exact ⟨nofun, .inl rfl⟩

theorem enterOff_kept (s : State) : IceKept s.imc (enterOff s).imc := by
  rw [enterOff_eq]
  exact ⟨nofun, .inl rfl⟩

theorem requestTube_kept (s : State) : IceKept s.imc (requestTube s).imc := by
  unfold requestTube
  split <;> exact .refl _

theorem beginEnable_kept (s : State) : IceKept s.imc (beginEnable s).imc := by
  unfold beginEnable
  dsimp only
  split <;> split
  · refine .trans (.trans ?_ (requestTube_kept _)) (enterFreezing_kept _)
    exact ⟨id, .inr rfl⟩
  · refine .trans (.trans ?_ (requestTube_kept _)) (enterPark_kept _)
    exact ⟨id, .inr rfl⟩
  · refine .trans ?_ (enterFreezing_kept _)
    exact ⟨id, .inr rfl⟩
  · refine .trans ?_ (enterPark_kept _)
    exact ⟨id, .inr rfl⟩

theorem enableIce_kept (s : State) : IceKept s.imc (enableIce s).imc := by
  unfold enableIce
  split
  case h_1 | h_2 => exact beginEnable_kept s
  case h_3 | h_4 => exact .of_eq rfl rfl
  all_goals exact .refl _

theorem testHarvest_kept (s : State) (status : ChannelStatus) (value : Option Temp) :
    IceKept s.imc (testHarvest s status value).imc := by
  unfold testHarvest
  dsimp only
  repeat' split
  · exact .after (changeIce_kept _ (by decide)) rfl rfl
  · exact .after (enterHarvestHeat_kept _) rfl rfl
  · exact .refl _

theorem takeCredit_kept (s : State) (due : Nat) : IceKept s.imc (takeCredit s due).imc :=
  .after (testHarvest_kept _ _ _) rfl rfl

theorem forceHarvest_kept (s : State) : IceKept s.imc (forceHarvest s).imc := by
  unfold forceHarvest
  dsimp only
  split
  · exact .after (enterHarvestHeat_kept _) rfl rfl
  · exact .refl _

theorem imInHarvest_kept (s : State) (status : ChannelStatus) (value : Option Temp) :
    IceKept s.imc (imInHarvest s status value).imc := by
  unfold imInHarvest
  repeat' split
  all_goals first | exact endHarvestHeat_kept s | exact .refl _

theorem takeIm_kept (s : State) (status : ChannelStatus) (value : Option Temp) :
    IceKept s.imc (takeIm s status value).imc := by
  unfold takeIm
  split
  case h_1 => exact testHarvest_kept s status value
  case h_2 => exact imInHarvest_kept s status value
  all_goals exact .refl _

theorem takeHarvestSecond_kept (s : State) (due : Nat) :
    IceKept s.imc (takeHarvestSecond s due).imc := by
  unfold takeHarvestSecond
  dsimp only
  repeat' split
  all_goals first | exact .after (endHarvestHeat_kept _) rfl rfl | exact .of_eq rfl rfl

theorem freezeFill_kept (s : State) (cause : FillEnd) : IceKept s.imc (freezeFill s cause).imc :=
  (onBatch_kept s _).trans (enterFreezing_kept _)

theorem decideFill_kept (s : State) (status : ChannelStatus) (value : Option Temp) :
    IceKept s.imc (decideFill s status value).imc := by
  unfold decideFill
  repeat' split
  · exact freezeFill_kept s _
  · exact .of_eq rfl rfl
  · exact .of_eq rfl rfl
  all_goals exact .refl _

theorem decideFillNow_kept (s : State) : IceKept s.imc (decideFillNow s).imc :=
  decideFill_kept s _ _

theorem enterFillWait_kept (s : State) : IceKept s.imc (enterFillWait s).imc :=
  (changeIce_kept s (by decide)).trans (decideFillNow_kept _)

theorem pauseFill_kept (s : State) : IceKept s.imc (pauseFill s).imc :=
  .after ((changeIce_kept _ (by decide)).trans (decideFillNow_kept _)) rfl rfl

theorem completeSweep_kept (s : State) : IceKept s.imc (completeSweep s).imc := by
  unfold completeSweep
  dsimp only
  split
  · exact .after (enterOff_kept _) (by simp) (by simp)
  · exact .after ((openBatch_kept _ _).trans (enterFillWait_kept _)) (by simp) (by simp)

theorem completePark_kept (s : State) : IceKept s.imc (completePark s).imc :=
  .after (enterFreezing_kept _) (by simp) (by simp)

theorem takeRakeHome_kept (s : State) (asserted : Bool) :
    IceKept s.imc (takeRakeHome s asserted).imc := by
  unfold takeRakeHome
  repeat' split
  case h_1.isTrue => exact completePark_kept s
  all_goals first | exact completeSweep_kept s | exact .of_eq rfl rfl

theorem failRake_kept (s : State) (failed : RakeState) : IceKept s.imc (failRake s failed).imc := by
  unfold failRake
  dsimp only
  split
  · exact .after (enterOff_kept _) (by simp) (by simp)
  · split
    · exact .after (changeIce_kept _ (by decide)) (by simp) (by simp)
    · exact .after (changeIce_kept _ (by decide)) (by simp [onBatch]) (by simp [onBatch])

theorem takeRakeSecond_kept (s : State) (due : Nat) : IceKept s.imc (takeRakeSecond s due).imc := by
  unfold takeRakeSecond
  dsimp only
  repeat' split
  all_goals first | exact .of_eq rfl rfl | exact .after (failRake_kept _ _) rfl rfl

theorem retryRake_kept (s : State) : IceKept s.imc (retryRake s).imc := by
  unfold retryRake
  dsimp only
  split
  · exact .after (enterPark_kept _) rfl rfl
  · exact .after (enterHarvestRake_kept _) rfl rfl
  · exact .of_eq rfl rfl

theorem takeClosed_kept (s : State) (cause : CloseCause) : IceKept s.imc (takeClosed s cause).imc := by
  unfold takeClosed
  repeat' split
  all_goals first | exact pauseFill_kept s | exact .of_eq rfl rfl

theorem abandonFill_kept (s : State) (charged : Nat) : IceKept s.imc (abandonFill s charged).imc :=
  .trans (openBatch_kept (s.raise (.noWater charged)) freshBatch)
    (.after (enterFillWait_kept _) rfl rfl)

theorem endShortFill_kept (s : State) (cause : FillEnd) : IceKept s.imc (endShortFill s cause).imc := by
  unfold endShortFill
  dsimp only
  split
  · exact freezeFill_kept s cause
  · exact (onBatch_kept s _).trans (abandonFill_kept _ _)

theorem settleFilling_kept (s : State) (cause : CloseCause) :
    IceKept s.imc (settleFilling s cause).imc := by
  unfold settleFilling
  dsimp only
  split
  · exact .after (freezeFill_kept _ _) rfl rfl
  · exact .after (endShortFill_kept _ _) rfl rfl
  · exact .after (endShortFill_kept _ _) rfl rfl
  all_goals exact .of_eq rfl rfl

theorem settlePaused_kept (s : State) : IceKept s.imc (settlePaused s).imc := by
  unfold settlePaused
  repeat' split
  · exact freezeFill_kept s _
  · exact decideFillNow_kept s
  · exact .after (decideFillNow_kept _) rfl rfl
  all_goals exact decideFillNow_kept s

theorem takeSettled_kept (s : State) (cause : CloseCause) :
    IceKept s.imc (takeSettled s cause).imc := by
  unfold takeSettled
  split
  · exact settleFilling_kept s cause
  · exact settlePaused_kept s
  · exact .after (decideFillNow_kept _) rfl rfl
  all_goals exact .of_eq rfl rfl

theorem withdrawIfWaiting_kept (s : State) : IceKept s.imc (withdrawIfWaiting s).imc := by
  unfold withdrawIfWaiting
  split <;> exact .of_eq rfl rfl

theorem disableIce_kept (s : State) : IceKept s.imc (disableIce s).imc := by
  unfold disableIce
  split
  case h_1 | h_2 => exact .of_eq rfl rfl
  case h_3 => exact .after (enterOff_kept _) rfl rfl
  case h_4 => exact (withdrawIfWaiting_kept s).trans ((onBatch_kept _ _).trans (enterOff_kept _))
  case h_5 => exact (withdrawIfWaiting_kept s).trans (enterOff_kept _)
  all_goals first | exact enterOff_kept s | exact .refl _

theorem storeParam_iceKept (s : State) (p : Param) (v : Int) :
    IceKept s.imc (storeParam s p v).imc := by
  cases p
  case fillTgt | kFreeze | startTemp => exact .of_eq rfl rfl
  case tubeDuty =>
    simp only [storeParam, storeTubeDuty]
    split
    · exact .of_eq rfl rfl
    · exact .of_eq (by simp) (by simp)
  all_goals exact .of_eq (by simp [storeParam]) (by simp [storeParam])

/-- IMC enters FILLING only when the fill is wanted, so only while DFC neither heats nor drips. -/
theorem takeGrant_filling {s : State} {target : Option Nat}
    (h : (takeGrant s target).imc.state = .filling) :
    s.imc.state = .filling ∨ (s.dfc.state ≠ .heat ∧ s.dfc.state ≠ .drip) := by
  unfold takeGrant at h
  split at h
  · rename_i hg
    obtain ⟨-, hheat, hdrip, -⟩ := (fillWanted_iff s _ _).1 hg.2.2
    exact .inr ⟨hheat, hdrip⟩
  · exact .inl h

theorem takeGrant_fillSeconds (s : State) (target : Option Nat) :
    (takeGrant s target).imc.fillSeconds = s.imc.fillSeconds := by
  unfold takeGrant
  split
  · simp [enterFilling, changeIce_eq, iceEntered, onBatch]
  · rfl

end Sys2Proof.Machine
end

section
/-! IMC is not FILLING while DFC heats or drips (R63, R82), at every command. -/

namespace Sys2Proof.Machine

open Sys2Proof Sys2Proof.Safety

/-! ### DFC -/

/-- From `x` to `y` DFC has not come to heat or drip. -/
def DefrostKept (x y : Dfc) : Prop :=
  y.state = .heat ∨ y.state = .drip → x.state = .heat ∨ x.state = .drip

theorem fillApart_of_defrostKept {s u : State} (hs : FillApartFromDefrost s) (hi : u.imc = s.imc)
    (hd : DefrostKept s.dfc u.dfc) : FillApartFromDefrost u := by
  rintro ⟨hf, hu⟩
  exact hs ⟨hi ▸ hf, hd hu⟩

theorem fillApart_of_iceKept {s u : State} (hs : FillApartFromDefrost s) (hd : u.dfc = s.dfc)
    (hi : IceKept s.imc u.imc) : FillApartFromDefrost u := by
  rintro ⟨hf, hu⟩
  rw [hd] at hu
  exact hs ⟨hi.state hf, hu⟩

theorem fillApart_of_not_filling {s : State} (h : s.imc.state ≠ .filling) : FillApartFromDefrost s :=
  fun hs => h hs.1

/-- DFC enters HEAT in an act in which IMC is not FILLING. -/
theorem enterHeat_fillApart {s : State} (h : s.imc.state ≠ .filling) :
    FillApartFromDefrost (enterHeat s) :=
  fillApart_of_not_filling (by simpa using h)

theorem enterPending_fillApart (s : State) (reason : StartReason) (frost : Nat) :
    FillApartFromDefrost (enterPending s reason frost) := by
  unfold enterPending
  dsimp only
  split
  · exact fun hu => by simpa [changeDefrost] using hu.2
  · rename_i hi
    exact enterHeat_fillApart hi

theorem takeDefrostRequest_fillApart {s : State} (reason : FestReason) (frost : Nat)
    (hs : FillApartFromDefrost s) : FillApartFromDefrost (takeDefrostRequest s reason frost) := by
  unfold takeDefrostRequest
  split
  · exact enterPending_fillApart _ _ _
  · exact hs

theorem startDefrost_fillApart {s : State} (hs : FillApartFromDefrost s) :
    FillApartFromDefrost (startDefrost s) := by
  unfold startDefrost
  split
  · exact enterPending_fillApart _ _ _
  · exact hs

/-- The end of HEAT: IMC was not FILLING, and it still is not. -/
theorem endHeat_fillApart {s : State} (cause : HeatEnd) (hs : FillApartFromDefrost s)
    (hheat : s.dfc.state = .heat) : FillApartFromDefrost (endHeat s cause) :=
  fillApart_of_defrostKept hs (by simp) fun _ => .inl hheat

theorem takeHeatSecond_fillApart {s : State} (due : Nat) (hs : FillApartFromDefrost s)
    (hheat : s.dfc.state = .heat) : FillApartFromDefrost (takeHeatSecond s due) :=
  fillApart_of_defrostKept hs (by simp) fun _ => .inl hheat

theorem restartFan_kept (s : State) : DefrostKept s.dfc (restartFan s).dfc := by
  unfold restartFan
  dsimp only
  repeat' split
  all_goals
    rintro (h | h)
    all_goals cases h

theorem endDrip_kept (s : State) : DefrostKept s.dfc (endDrip s).dfc := by
  unfold endDrip
  dsimp only
  split
  · exact fun h => by
      have := restartFan_kept _ h
      simp [changeDefrost] at this
  · rintro (h | h) <;> cases h

theorem takeEv_kept (s : State) (status : ChannelStatus) (value : Option Temp) :
    DefrostKept s.dfc (takeEv s status value).dfc := by
  unfold takeEv
  split
  case h_1 hheat => exact fun _ => .inl hheat
  case h_2 =>
    split
    · exact restartFan_kept s
    · exact id
  all_goals exact id

theorem abortDefrost_kept (s : State) : DefrostKept s.dfc (abortDefrost s).dfc := by
  unfold abortDefrost
  split
  case h_1 => rintro (h | h) <;> cases h
  case h_2 hheat => exact fun _ => .inl hheat
  all_goals exact id

theorem storeParam_defrostState (s : State) (p : Param) (v : Int) :
    (storeParam s p v).dfc.state = s.dfc.state := by
  cases p <;> simp [storeParam]

theorem setParam_fillApart {s : State} (id : Byte) (value : BitVec 32)
    (hs : FillApartFromDefrost s) : FillApartFromDefrost (setParam s id value) := by
  unfold setParam
  split
  · exact hs
  · rintro ⟨hf, hu⟩
    simp only [answer_imc, answer_dfc, storeParam_defrostState] at hf hu
    exact hs ⟨(storeParam_iceKept s _ _).state hf, hu⟩

theorem takeGrant_fillApart {s : State} (target : Option Nat) (hs : FillApartFromDefrost s) :
    FillApartFromDefrost (takeGrant s target) := by
  rintro ⟨hf, hu⟩
  simp only [takeGrant_frame] at hu
  rcases takeGrant_filling hf with hold | ⟨hheat, hdrip⟩
  · exact hs ⟨hold, hu⟩
  · exact hu.elim hheat hdrip

theorem startUp_iceState (s : State) : (startUp s).imc = s.imc := by
  simp [startUp, startTimers, loadValues]

theorem restart_fillApart (s : State) (causes : ResetCauses) :
    FillApartFromDefrost (restart s causes) := by
  have hoff : (restart s causes).imc.state = .off := by
    refine restart_keeps (P := fun u => u.imc.state = .off) (fun _ _ => rfl) (fun u hu => ?_) s causes
    rwa [startUp_iceState]
  exact fillApart_of_not_filling (by simp [hoff])

/-! ### Every command -/

/-- SET PARAM, the resets, and the end of a reply, which may bring one: the commands that write every
block. -/
def writesAnyBlock : Instr → Bool
  | .setParam _ _ | .replyEnd => true
  | c => isReset c

/-- The commands of DFC, and those that write every block. -/
def writesDfc : Instr → Bool
  | .defrostStart | .defrostAbort | .defrostRequest _ _ | .imcStateAtDfc _ | .heatSecond
  | .evAtDfc _ _ | .heaterOnAtDfc _ | .tHandBack _ _ | .dripExpiry | .recoveryExpiry
  | .retryHoldExpiry => true
  | c => writesAnyBlock c

/-- The commands of IMC that neither start a fill nor count its seconds. -/
def keepsFills : Instr → Bool
  | .iceEnable | .iceDisable | .iceForceHarvest | .creditInterval | .imAtImc _ _ | .binBeamAtImc _
  | .harvestSecond | .rakeHomeAtImc _ | .rakeSecond | .retryTimerExpiry | .moldOnAtImc _
  | .rakeOnAtImc _ | .fzAtImc _ _ | .dfcStateAtImc _ | .closedAtImc _ | .preemptionCountAtImc _
  | .settledAtImc _ _ | .fillEndAtImc _ | .withdrawnAtImc | .millilitreAtImc | .noWaterHoldExpiry =>
    true
  | _ => false

/-- The commands of IMC, and those that write every block. -/
def writesImc : Instr → Bool
  | .grantedAtImc _ | .fillSecond => true
  | c => keepsFills c || writesAnyBlock c

theorem componentOnly_dfc : ComponentOnly State.dfc := ⟨fun _ _ => rfl, fun _ _ => rfl⟩

theorem componentOnly_imc : ComponentOnly State.imc := ⟨fun _ _ => rfl, fun _ _ => rfl⟩

/-- Every other command leaves DFC as it is. -/
theorem exec_dfc {c : Instr} {s t : State} (hc : writesDfc c = false) (h : exec c s = .next t) :
    t.dfc = s.dfc := by
  have hget := componentOnly_dfc
  cases c
  all_goals first | cases hc; done | dsimp only [exec] at h
  case switchPinChange =>
    cases h
    simp
  case railBelowEntry | railAboveExit | railFallsBack =>
    exact (perform_component hget h fun _ => by simp).trans (by simp)
  case settleWindowExpiry =>
    refine perform_expiry_component hget h fun _ _ => ?_
    dsimp only
    split <;> simp
  case creditInterval | harvestSecond =>
    refine perform_expiry_component hget h fun _ _ => ?_
    split <;> simp
  case binBeamAtImc | preemptionCountAtImc | fillEndAtImc =>
    refine perform_component hget h fun _ => ?_
    split <;> simp
  all_goals first
    | exact perform_expiry_component hget h fun _ _ => by simp
    | exact perform_component hget h fun _ => by simp

/-- Every other command leaves IMC as it is. -/
theorem exec_imc {c : Instr} {s t : State} (hc : writesImc c = false) (h : exec c s = .next t) :
    t.imc = s.imc := by
  have hget := componentOnly_imc
  cases c
  all_goals first | cases hc; done | dsimp only [exec] at h
  case switchPinChange =>
    cases h
    simp
  case railBelowEntry | railAboveExit | railFallsBack =>
    exact (perform_component hget h fun _ => by simp).trans (by simp)
  case settleWindowExpiry =>
    refine perform_expiry_component hget h fun _ _ => ?_
    dsimp only
    split <;> simp
  case heatSecond =>
    refine perform_expiry_component hget h fun _ _ => ?_
    split <;> simp
  case imcStateAtDfc | tHandBack =>
    refine perform_component hget h fun _ => ?_
    split <;> simp
  all_goals first
    | exact perform_expiry_component hget h fun _ _ => by simp
    | exact perform_component hget h fun _ => by simp

theorem perform_iceKept {c : Instr} {s t : State} {f : State → State}
    (h : perform c s f = .next t) (hf : ∀ u, IceKept u.imc (f u).imc) : IceKept s.imc t.imc := by
  rcases perform_cases h with ⟨-, rfl⟩ | ⟨-, rfl⟩
  · exact hf (s.taken c)
  · exact .refl _

theorem perform_expiry_iceKept {c : Instr} {s t : State} {timer : State → Timer}
    {f : Nat → State → State} (h : perform c s (fun s => onExpiry (timer s) s f) = .next t)
    (hf : ∀ due u, IceKept u.imc (f due u).imc) : IceKept s.imc t.imc := by
  refine perform_iceKept h fun u => ?_
  cases timer u with
  | none => exact .refl _
  | some due => exact hf due (u.withNow (max u.now due))

/-- Of the commands of IMC, only a grant starts a fill, and only the fill second counts its seconds. -/
theorem exec_iceKept {c : Instr} {s t : State} (hc : keepsFills c = true) (h : exec c s = .next t) :
    IceKept s.imc t.imc := by
  cases c
  all_goals first | cases hc; done | dsimp only [exec] at h
  case iceEnable => exact perform_iceKept h enableIce_kept
  case iceDisable => exact perform_iceKept h disableIce_kept
  case iceForceHarvest => exact perform_iceKept h forceHarvest_kept
  case creditInterval =>
    refine perform_expiry_iceKept h fun due u => ?_
    split
    · exact takeCredit_kept u due
    · exact .of_eq rfl rfl
  case imAtImc status value => exact perform_iceKept h fun u => takeIm_kept u status value
  case binBeamAtImc =>
    refine perform_iceKept h fun u => ?_
    split
    · exact enterHarvestHeat_kept u
    · exact .refl _
  case harvestSecond =>
    refine perform_expiry_iceKept h fun due u => ?_
    split
    · exact takeHarvestSecond_kept u due
    · exact .of_eq rfl rfl
  case rakeHomeAtImc asserted => exact perform_iceKept h fun u => takeRakeHome_kept u asserted
  case rakeSecond => exact perform_expiry_iceKept h fun due u => takeRakeSecond_kept u due
  case retryTimerExpiry => exact perform_expiry_iceKept h fun _ u => retryRake_kept u
  case moldOnAtImc | rakeOnAtImc | millilitreAtImc =>
    exact perform_iceKept h fun _ => .of_eq rfl rfl
  case fzAtImc status value => exact perform_iceKept h fun u => decideFill_kept u status value
  case dfcStateAtImc => exact perform_iceKept h decideFillNow_kept
  case noWaterHoldExpiry =>
    exact perform_expiry_iceKept h fun _ _ => .after (decideFillNow_kept _) rfl rfl
  case withdrawnAtImc => exact perform_iceKept h fun _ => .after (decideFillNow_kept _) rfl rfl
  case closedAtImc cause => exact perform_iceKept h fun u => takeClosed_kept u cause
  case preemptionCountAtImc =>
    refine perform_iceKept h fun u => ?_
    split
    · exact .after (pauseFill_kept _) rfl rfl
    · exact .refl _
  case settledAtImc cause _ => exact perform_iceKept h fun u => takeSettled_kept u cause
  case fillEndAtImc =>
    refine perform_iceKept h fun u => ?_
    split
    · exact freezeFill_kept u _
    · exact .refl _

theorem readsBlocksOnly_fillApart : ReadsBlocksOnly FillApartFromDefrost :=
  ⟨fun _ _ h => h, fun _ _ h => h, fun _ _ h => h, fun _ _ h => h⟩

/-- DFC enters HEAT only while IMC is not FILLING, and IMC enters FILLING only while DFC neither heats nor
drips. -/
theorem exec_keeps_fillApart (c : Instr) (s t : State) (hs : FillApartFromDefrost s)
    (h : exec c s = .next t) : FillApartFromDefrost t := by
  have hP := readsBlocksOnly_fillApart
  cases hk : keepsFills c with
  | true =>
    have hc : writesDfc c = false := by cases c <;> first | rfl | cases hk
    exact fillApart_of_iceKept hs (exec_dfc hc h) (exec_iceKept hk h)
  | false =>
    cases hd : writesDfc c with
    | false =>
      cases hi : writesImc c with
      | false =>
        exact fillApart_of_iceKept hs (exec_dfc hd h) (by rw [exec_imc hi h]; exact .refl _)
      | true =>
        cases c
        all_goals first | cases hk; done | cases hd; done | cases hi; done | dsimp only [exec] at h
        case grantedAtImc target =>
          exact perform_keeps h hP hs fun _ hu => takeGrant_fillApart target hu
        case fillSecond =>
          refine perform_expiry_keeps h hP hs fun due u hu => ?_
          unfold takeFillSecond
          dsimp only
          split <;> exact hu
    | true =>
      cases c
      all_goals first | cases hd; done | skip
      case powerOn | supplyLow | resetLine | resetnRise | supplyRiseAboveResetLevel =>
        exact exec_reset_keeps hP restart_fillApart rfl hs h
      all_goals dsimp only [exec] at h
      case setParam id value =>
        exact perform_keeps h hP hs fun _ hu => setParam_fillApart id value hu
      case replyEnd =>
        exact perform_expiry_keeps h hP hs fun _ _ hu =>
          endReply_keeps restart_fillApart (fun _ _ hu => hu) hu
      case defrostStart => exact perform_keeps h hP hs fun _ hu => startDefrost_fillApart hu
      case defrostAbort =>
        exact perform_keeps h hP hs fun u hu =>
          fillApart_of_defrostKept hu (by simp) (abortDefrost_kept u)
      case defrostRequest reason frost =>
        exact perform_keeps h hP hs fun _ hu => takeDefrostRequest_fillApart reason frost hu
      case imcStateAtDfc state =>
        refine perform_keeps h hP hs fun u hu => ?_
        split
        · rename_i hi
          exact enterHeat_fillApart hi.2.2
        · exact hu
      case heatSecond =>
        refine perform_expiry_keeps h hP hs fun due u hu => ?_
        split
        · rename_i hheat
          exact takeHeatSecond_fillApart due hu hheat
        · exact hu
      case evAtDfc status value =>
        exact perform_keeps h hP hs fun u hu =>
          fillApart_of_defrostKept hu (by simp) (takeEv_kept u status value)
      case heaterOnAtDfc => exact perform_keeps h hP hs fun _ hu => hu
      case tHandBack =>
        refine perform_keeps h hP hs fun u hu => ?_
        split <;> exact hu
      case dripExpiry =>
        exact perform_expiry_keeps h hP hs fun _ u hu =>
          fillApart_of_defrostKept hu (by simp) (endDrip_kept u)
      case recoveryExpiry =>
        exact perform_expiry_keeps h hP hs fun _ u hu =>
          fillApart_of_defrostKept hu (by simp) (restartFan_kept u)
      case retryHoldExpiry => exact perform_expiry_keeps h hP hs fun _ _ hu => hu

/-- Settles O6: each of the two blocks reads the other's present state in the act of its entry. -/
theorem stepKeepsFillApartFromDefrost : Obligations.StepKeepsFillApartFromDefrost :=
  fun _ _ hs h => step_keeps readsBlocksOnly_fillApart exec_keeps_fillApart hs h

end Sys2Proof.Machine
end

section
/-! Counts in their ranges (R14, R28, R42, R48, R97), and the run of meter pulses (R28). -/

namespace Sys2Proof.Machine

open Sys2Proof Sys2Proof.Safety

/-! ### A millilitre charged to the holder of the grant record (R29, R30, R32) -/

/-- R29: the claim of the holder with one more millilitre charged; a claim that is NONE is charged
nothing. -/
def chargedClaim (w : Wpu) (who : Claimant) : Wpu :=
  let claim := getClaim w who
  if claim.state = .none then w else setClaim w who { claim with charged := claim.charged + 1 }

/-- The grant record with one more millilitre charged. -/
def chargedGrant (g : Grant) : Grant := { g with charged := g.charged + 1 }

/-- A millilitre charges a claim, and no other component of WPU. -/
theorem chargedClaim_eq (w : Wpu) (who : Claimant) : chargedClaim w who =
    { w with ice := (chargedClaim w who).ice, disp := (chargedClaim w who).disp } := by
  unfold chargedClaim
  dsimp only
  split
  · rfl
  · cases who <;> rfl

theorem handMillilitre_eq (s : State) (who : Claimant) : handMillilitre s who =
    { s with handovers := s.handovers ++ millilitreHandovers who } := by
  cases who <;> simp [handMillilitre, millilitreHandovers, State.handover, State.withHandovers]

/-- The state in which a millilitre has been charged to the claim and the grant record, and handed. -/
def millilitreCharged (s : State) (g : Grant) : State :=
  { s with
    handovers := s.handovers ++ millilitreHandovers g.holder,
    wpu := { chargedClaim s.wpu g.holder with grant := some (chargedGrant g) } }

theorem millilitreCharged_path (s : State) (g : Grant) :
    (millilitreCharged s g).wpu.path = s.wpu.path := by
  rw [millilitreCharged, chargedClaim_eq]

/-- R29: outside OPEN the millilitre is only charged. -/
theorem chargeHolder_of_not_open {s : State} (g : Grant) (h : s.wpu.path ≠ .opened) :
    chargeHolder s g = millilitreCharged s g := by
  have hp := millilitreCharged_path s g
  rw [← hp] at h
  unfold chargeHolder
  simp only [handMillilitre_eq]
  exact if_neg h

/-- R32: in OPEN the no-flow timer starts afresh. -/
theorem chargeHolder_of_open {s : State} {g : Grant} (h : s.wpu.path = .opened)
    (hpoint : ∀ p, g.closePoint = some p → g.charged + 1 < p) :
    chargeHolder s g =
      let u := millilitreCharged s g
      u.withWpu { u.wpu with noFlowTimer := some (s.now + 5000) } := by
  have hp := millilitreCharged_path s g
  rw [← hp] at h
  unfold chargeHolder
  simp only [handMillilitre_eq]
  refine (if_pos h).trans ?_
  obtain ⟨holder, target, charged, point, time, cause⟩ := g
  cases point with
  | none => rfl
  | some p => exact if_neg (by simpa using hpoint p rfl)

/-- R30: at the close point the coil closes. -/
theorem chargeHolder_of_closePoint {s : State} {g : Grant} {p : Nat} (h : s.wpu.path = .opened)
    (hc : g.closePoint = some p) (hpoint : p ≤ g.charged + 1) :
    chargeHolder s g =
      let u := millilitreCharged s g
      closeCoil (u.withWpu { u.wpu with noFlowTimer := some (s.now + 5000) }) .closePoint := by
  have hp := millilitreCharged_path s g
  rw [← hp] at h
  obtain ⟨holder, target, charged, point, time, cause⟩ := g
  subst hc
  unfold chargeHolder
  simp only [handMillilitre_eq]
  exact (if_pos h).trans (if_pos hpoint)

/-! ### The meter -/

/-- The residue, METER_K and filter used: what a pulse counts in (R28, R35). -/
def meterOf (w : Wpu) : Nat × Nat := (w.residue, w.meterK)

@[simp] theorem withIce_meter (w : Wpu) (c : Claim) : meterOf { w with ice := c } = meterOf w := rfl

@[simp] theorem setClaim_meter (w : Wpu) (who : Claimant) (c : Claim) :
    meterOf (setClaim w who c) = meterOf w := by
  cases who <;> rfl

@[simp] theorem setLearning_meter (w : Wpu) (who : Claimant) (l : PathLearning) :
    meterOf (setLearning w who l) = meterOf w := by
  cases who <;> rfl

@[simp] theorem grantPath_meter (s : State) (who : Claimant) :
    meterOf (grantPath s who).wpu = meterOf s.wpu := by
  cases who <;> rfl

@[simp] theorem arbitrate_meter (s : State) : meterOf (arbitrate s).wpu = meterOf s.wpu := by
  unfold arbitrate
  repeat' split
  all_goals simp

@[simp] theorem closeCoil_meter (s : State) (cause : CloseCause) :
    meterOf (closeCoil s cause).wpu = meterOf s.wpu := by
  unfold closeCoil
  split
  · simp [meterOf]
  · rfl

@[simp] theorem iceWaitsAgain_meter (s : State) :
    meterOf (iceWaitsAgain s).wpu = meterOf s.wpu := rfl

@[simp] theorem preemptFill_meter (s : State) : meterOf (preemptFill s).wpu = meterOf s.wpu :=
  (iceWaitsAgain_meter _).trans (closeCoil_meter _ _)

@[simp] theorem makeClaim_meter (s : State) (who : Claimant) (target : Option Nat)
    (charged preemptions : Nat) :
    meterOf (makeClaim s who target charged preemptions).wpu = meterOf s.wpu := by
  unfold makeClaim
  dsimp only
  repeat' split
  all_goals simp

@[simp] theorem withdrawClaim_meter (s : State) (who : Claimant) :
    meterOf (withdrawClaim s who).wpu = meterOf s.wpu := by
  unfold withdrawClaim
  split <;> simp

@[simp] theorem releaseClaim_meter (s : State) (who : Claimant) :
    meterOf (releaseClaim s who).wpu = meterOf s.wpu := by
  unfold releaseClaim
  split <;> simp

@[simp] theorem reevaluateFilter_meter (s : State) :
    meterOf (reevaluateFilter s).wpu = meterOf s.wpu := by
  rw [reevaluateFilter_eq]
  rfl

@[simp] theorem countUsed_meter (s : State) : meterOf (countUsed s).wpu = meterOf s.wpu := by
  rw [countUsed_eq]
  dsimp only [countedUsed]
  split <;> rfl

@[simp] theorem chargeUnclaimed_meter (s : State) :
    meterOf (chargeUnclaimed s).wpu = meterOf s.wpu := by
  unfold chargeUnclaimed
  dsimp only
  split <;> rfl

@[simp] theorem chargedClaim_meter (w : Wpu) (who : Claimant) :
    meterOf (chargedClaim w who) = meterOf w := by
  unfold chargedClaim
  dsimp only
  split <;> simp

@[simp] theorem millilitreCharged_meter (s : State) (g : Grant) :
    meterOf (millilitreCharged s g).wpu = meterOf s.wpu :=
  chargedClaim_meter s.wpu g.holder

/-- Whatever the path, a millilitre charged to a holder leaves `get` as it is when the charge and the close
of the coil do. -/
theorem chargeHolder_component {α : Type} {get : Wpu → α} {s : State} {g : Grant}
    (hcharge : get (millilitreCharged s g).wpu = get s.wpu)
    (htimer : ∀ w t, get { w with noFlowTimer := t } = get w)
    (hclose : ∀ u cause, get (closeCoil u cause).wpu = get u.wpu) :
    get (chargeHolder s g).wpu = get s.wpu := by
  by_cases hp : s.wpu.path = .opened
  · by_cases hc : ∃ p, g.closePoint = some p ∧ p ≤ g.charged + 1
    · obtain ⟨p, hpoint, hle⟩ := hc
      rw [chargeHolder_of_closePoint hp hpoint hle, hclose]
      exact (htimer _ _).trans hcharge
    · have hlt : ∀ p, g.closePoint = some p → g.charged + 1 < p := fun p hpoint =>
        Nat.lt_of_not_le fun hle => hc ⟨p, hpoint, hle⟩
      rw [chargeHolder_of_open hp hlt]
      exact (htimer _ _).trans hcharge
  · rwa [chargeHolder_of_not_open g hp]

@[simp] theorem chargeHolder_meter (s : State) (g : Grant) :
    meterOf (chargeHolder s g).wpu = meterOf s.wpu :=
  chargeHolder_component (millilitreCharged_meter s g) (fun _ _ => rfl) closeCoil_meter

@[simp] theorem chargeMillilitre_meter (s : State) :
    meterOf (chargeMillilitre s).wpu = meterOf s.wpu := by
  unfold chargeMillilitre
  split <;> simp

@[simp] theorem endGrant_meter (s : State) (g : Grant) :
    meterOf (endGrant s g).wpu = meterOf s.wpu := by
  unfold endGrant
  dsimp only
  rw [arbitrate_meter]
  change meterOf (handSettled _ _ _ _).wpu = _
  simp only [handSettled_frame]
  repeat' split
  all_goals simp

@[simp] theorem wpuSagEntry_meter (s : State) : meterOf (wpuSagEntry s).wpu = meterOf s.wpu := by
  unfold wpuSagEntry
  dsimp only
  repeat' split
  all_goals first | exact closeCoil_meter _ _ | rfl

@[simp] theorem wpuSagExit_meter (s : State) : meterOf (wpuSagExit s).wpu = meterOf s.wpu :=
  arbitrate_meter _

@[simp] theorem takeDaySecond_meter (s : State) (due : Nat) :
    meterOf (takeDaySecond s due).wpu = meterOf s.wpu := by
  unfold takeDaySecond
  dsimp only
  split
  · exact reevaluateFilter_meter _
  · rfl

@[simp] theorem filterReset_meter (s : State) (capacity : BitVec 24) :
    meterOf (filterReset s capacity).wpu = meterOf s.wpu :=
  reevaluateFilter_meter _

/-- R28: a pulse leaves METER_K, and a residue below it. -/
theorem takePulse_meter (s : State) : meterOf (takePulse s).wpu =
    (if s.wpu.meterK ≤ s.wpu.residue + 1000 then s.wpu.residue + 1000 - s.wpu.meterK
      else s.wpu.residue + 1000, s.wpu.meterK) := by
  unfold takePulse
  dsimp only
  split
  · exact chargeMillilitre_meter _
  · rfl

/-! ### Filter used (R35) -/

@[simp] theorem closeCoil_used (s : State) (cause : CloseCause) :
    (closeCoil s cause).wpu.used = s.wpu.used := by
  unfold closeCoil
  split
  · simp
  · rfl

theorem chargeHolder_used (s : State) (g : Grant) :
    (chargeHolder s g).wpu.used = s.wpu.used := by
  refine chargeHolder_component (get := Wpu.used) ?_ (fun _ _ => rfl) closeCoil_used
  rw [millilitreCharged, chargedClaim_eq]

theorem chargeUnclaimed_used (s : State) : (chargeUnclaimed s).wpu.used = s.wpu.used := by
  unfold chargeUnclaimed
  dsimp only
  split <;> rfl

theorem countUsed_used {s : State} (h : s.wpu.used < 9999999) :
    (countUsed s).wpu.used = s.wpu.used + 1 := by
  rw [countUsed_eq, countedUsed, if_pos h]

/-- R35: each millilitre adds to filter used, whatever account it is charged to. -/
theorem chargeMillilitre_used {s : State} (h : s.wpu.used < 9999999) :
    (chargeMillilitre s).wpu.used = s.wpu.used + 1 := by
  unfold chargeMillilitre
  split
  · rw [countUsed_used (by rwa [chargeHolder_used]), chargeHolder_used]
  · rw [countUsed_used (by rwa [chargeHolder_used]), chargeHolder_used]
  · rw [countUsed_used (by rwa [chargeUnclaimed_used]), chargeUnclaimed_used]

/-! ### A run of pulses (R28) -/

theorem exec_meterPulse {s : State} (hrun : s.running = true) :
    exec .meterPulse s = .next (takePulse (s.taken .meterPulse)) :=
  perform_of_running hrun

theorem pulses_succ {s : State} (n : Nat) (hrun : s.running = true) :
    pulses (n + 1) s = pulses n (takePulse (s.taken .meterPulse)) := by
  rw [pulses, exec_meterPulse hrun]

theorem running_takePulse (s : State) : (takePulse s).running = s.running := by
  simp [State.running]

/-- A pulse, as arithmetic: 1000 more in the meter, of which a millilitre is taken when it holds one. -/
theorem takePulse_counts {s : State} (hk : 1000 ≤ s.wpu.meterK) (hr : s.wpu.residue < s.wpu.meterK)
    (hused : s.wpu.used + (s.wpu.residue + 1000) / s.wpu.meterK ≤ 9999999) :
    (takePulse s).wpu.meterK = s.wpu.meterK ∧
      (takePulse s).wpu.residue = (s.wpu.residue + 1000) % s.wpu.meterK ∧
      (takePulse s).wpu.used = s.wpu.used + (s.wpu.residue + 1000) / s.wpu.meterK := by
  have hmeter := takePulse_meter s
  simp only [meterOf, Prod.mk.injEq] at hmeter
  obtain ⟨hres, hkeep⟩ := hmeter
  refine ⟨hkeep, ?_⟩
  rw [hres]
  by_cases h : s.wpu.meterK ≤ s.wpu.residue + 1000
  · have hdiv : (s.wpu.residue + 1000) / s.wpu.meterK = 1 := by
      rw [Nat.div_eq_iff (by omega)]
      omega
    have hmod := Nat.mod_eq_sub_mul_div (x := s.wpu.residue + 1000) (k := s.wpu.meterK)
    rw [hdiv] at hmod hused ⊢
    refine ⟨by rw [if_pos h, hmod, Nat.mul_one], ?_⟩
    rw [takePulse]
    simp only [if_pos h]
    exact chargeMillilitre_used (by simp only [State.withWpu_wpu]; omega)
  · have hlt := Nat.lt_of_not_le h
    rw [Nat.div_eq_of_lt hlt, Nat.mod_eq_of_lt hlt, if_neg h]
    refine ⟨rfl, ?_⟩
    rw [takePulse]
    simp only [if_neg h]
    rfl

/-- Dividing after a first thousand: its whole part and remainder go on. -/
theorem div_mod_add_thousand (r k n : Nat) (hk : 0 < k) :
    (r + 1000 * (n + 1)) / k = (r + 1000) / k + ((r + 1000) % k + 1000 * n) / k ∧
      (r + 1000 * (n + 1)) % k = ((r + 1000) % k + 1000 * n) % k := by
  have hsplit : r + 1000 * (n + 1) = ((r + 1000) % k + 1000 * n) + k * ((r + 1000) / k) := by
    have := Nat.mod_add_div (r + 1000) k
    omega
  rw [hsplit, Nat.add_mul_div_left _ _ hk, Nat.add_mul_mod_self_left]
  exact ⟨Nat.add_comm _ _, rfl⟩

/-- Settles O15, by induction on the number of pulses. -/
theorem pulseRunMetersWholeMillilitres : Obligations.PulseRunMetersWholeMillilitres := by
  intro n
  induction n with
  | zero =>
    intro s _ _ hr _
    exact ⟨s, rfl, by simp [Nat.div_eq_of_lt hr], by simp [Nat.mod_eq_of_lt hr]⟩
  | succ n ih =>
    intro s hrun hk hr hused
    obtain ⟨hdiv, hmod⟩ := div_mod_add_thousand s.wpu.residue s.wpu.meterK n (by omega)
    rw [hdiv] at hused
    obtain ⟨hk', hr', hused'⟩ := takePulse_counts (s := s.taken .meterPulse) hk hr
      ((Nat.add_le_add_left (Nat.le_add_right _ _) _).trans hused)
    simp only [State.taken_wpu] at hk' hr' hused'
    obtain ⟨t, ht, htu, htr⟩ := ih (takePulse (s.taken .meterPulse))
      (by rwa [running_takePulse, State.running_taken]) (by rwa [hk'])
      (by rw [hr', hk']; exact Nat.mod_lt _ (by omega))
      (by rw [hused', hr', hk', Nat.add_assoc]; exact hused)
    refine ⟨t, by rw [pulses_succ n hrun, ht], ?_, ?_⟩
    · rw [htu, hused', hr', hk', hdiv, Nat.add_assoc]
    · rw [htr, hr', hk', hmod]

end Sys2Proof.Machine
end

section
/-! Counts in their ranges (R14, R28, R42, R48, R97), at every command. -/

namespace Sys2Proof.Machine

open Sys2Proof Sys2Proof.Safety

/-! ### WPU, SCAN and FEST -/

/-- A pulse keeps the residue below METER_K. -/
theorem takePulse_residue {s : State}
    (h : s.wpu.residue < s.wpu.meterK ∧ 1000 ≤ s.wpu.meterK) :
    (takePulse s).wpu.residue < (takePulse s).wpu.meterK ∧ 1000 ≤ (takePulse s).wpu.meterK := by
  have hmeter := takePulse_meter s
  simp only [meterOf, Prod.mk.injEq] at hmeter
  rw [hmeter.1, hmeter.2]
  refine ⟨?_, h.2⟩
  split <;> omega

/-- The three second counters (R14). -/
def secondsOf (x : Scan) : Nat × Nat × Nat := (x.fzSeconds, x.ffSeconds, x.cmpSeconds)

@[simp] theorem takeSample_seconds (s : State) (ch : Channel) (reading : Temp) (due : Nat) :
    secondsOf (takeSample s ch reading due).scan = secondsOf s.scan := by
  unfold takeSample
  dsimp only
  repeat' split
  all_goals simp [secondsOf, State.withChannel]

@[simp] theorem changeSwitch_seconds (s : State) (i : SwitchInput) :
    secondsOf (changeSwitch s i).scan = secondsOf s.scan := by
  unfold changeSwitch
  dsimp only
  split <;> simp [secondsOf, State.withSwitch]

@[simp] theorem setEdge_seconds (s : State) (input code : Byte) :
    secondsOf (setEdge s input code).scan = secondsOf s.scan := by
  unfold setEdge
  split <;> rfl

@[simp] theorem storeParam_seconds (s : State) (p : Param) (v : Int) :
    secondsOf (storeParam s p v).scan = secondsOf s.scan := by
  cases p <;> simp [storeParam, secondsOf, State.withChannel]

theorem countSwitch_le {n : Nat} (asserted : Bool) (h : n ≤ 60) : countSwitch n asserted ≤ 60 := by
  unfold countSwitch satAdd
  split <;> omega

theorem clampT_inRange (t : Nat) : 40000 ≤ clampT t ∧ clampT t ≤ 600000 := by
  simp only [clampT, Config.tMin_eq, Config.tMax_eq]
  omega

/-- TABLE 3-4 keeps T in its range. -/
theorem adaptedT_inRange {t : Nat} (heatTgt : Nat) (cause : HeatEnd) (on : Nat)
    (h : 40000 ≤ t ∧ t ≤ 600000) :
    40000 ≤ adaptedT t heatTgt cause on ∧ adaptedT t heatTgt cause on ≤ 600000 := by
  cases cause
  case temp =>
    dsimp only [adaptedT]
    split
    · exact clampT_inRange _
    · split
      · exact clampT_inRange _
      · exact h
  case maxTime => exact clampT_inRange _
  case fallbackTime | starved | aborted => exact h

theorem takeMinute_counts {s : State} (due : Nat) (h : CountsInRange s) :
    CountsInRange (takeMinute s due) := by
  obtain ⟨hmeter, ht, he, hw, -, hfill⟩ := h
  simp only [CountsInRange, takeMinute, handRequest]
  split <;> exact ⟨hmeter, ht, Nat.min_le_left _ _, by simp, by simp, hfill⟩

/-! ### Parameters and resets -/

theorem toNat_clampInt {lo hi : Nat} (h : lo ≤ hi) (v : Int) :
    lo ≤ (clampInt lo hi v).toNat ∧ (clampInt lo hi v).toNat ≤ hi := by
  unfold clampInt
  omega

/-- METER_K and T are stored within their ranges; a new METER_K clears the residue. -/
theorem storeParam_counts {s : State} (p : Param) (value : Int) (h : CountsInRange s) :
    CountsInRange (storeParam s p (clampInt (paramLo p) (paramHi p) value)) := by
  obtain ⟨hmeter, ht, he, hw, hseconds, hfill⟩ := h
  have hice : (storeParam s p (clampInt (paramLo p) (paramHi p) value)).imc.fillSeconds ≤ 20 := by
    rcases (storeParam_iceKept s p (clampInt (paramLo p) (paramHi p) value)).seconds with h | h <;>
      omega
  have hscan := storeParam_seconds s p (clampInt (paramLo p) (paramHi p) value)
  simp only [secondsOf, Prod.mk.injEq] at hscan
  obtain ⟨hfz, hff, hcmp⟩ := hscan
  rw [CountsInRange, hfz, hff, hcmp]
  cases p
  case meterK =>
    have := toNat_clampInt (lo := 1000) (hi := 6000) (by omega) value
    exact ⟨⟨Nat.lt_of_lt_of_le (show 0 < 1000 by decide) this.1, this.1⟩,
      ht, he, hw, hseconds, hice⟩
  case frostT =>
    exact ⟨hmeter, toNat_clampInt (lo := 40000) (hi := 600000) (by omega) value, he, hw, hseconds, hice⟩
  case ageLim =>
    have hkeep := reevaluateFilter_meter (s.withWpu { s.wpu with
      ageLim := (clampInt (paramLo .ageLim) (paramHi .ageLim) value).toNat })
    simp only [meterOf, Prod.mk.injEq] at hkeep
    simp only [storeParam, reevaluateFilter_frame] at hice ⊢
    rw [hkeep.1, hkeep.2]
    exact ⟨hmeter, ht, he, hw, hseconds, hice⟩
  all_goals
    simp only [storeParam, storeTubeDuty_frame, storeDuctDuty_frame, storeBudget_frame,
      storeRated_frame, changeDuty_frame] at hice ⊢
    exact ⟨hmeter, ht, he, hw, hseconds, hice⟩

theorem setParam_counts {s : State} (id : Byte) (value : BitVec 32) (h : CountsInRange s) :
    CountsInRange (setParam s id value) := by
  unfold setParam
  split
  · exact h
  · exact storeParam_counts _ _ h

theorem loadedValues_t (x : Store) : 40000 ≤ (loadedValues x).t ∧ (loadedValues x).t ≤ 600000 := by
  unfold loadedValues
  split
  · exact clampT_inRange _
  · simp

theorem startUp_counts {s : State} (h : CountsInRange s) : CountsInRange (startUp s) := by
  obtain ⟨hmeter, -, he, hw, hseconds, hfill⟩ := h
  have ht := loadedValues_t s.store
  simp only [CountsInRange, startUp, takeEvent_frame, requestLoad_frame]
  exact ⟨hmeter, ht, he, hw, hseconds, hfill⟩

theorem restart_counts (s : State) (causes : ResetCauses) : CountsInRange (restart s causes) := by
  refine restart_keeps (P := CountsInRange) (fun _ _ => ?_) (fun _ => startUp_counts) s causes
  simp [CountsInRange, resetBlocks, Wpu.held, Fest.held, heldScan, Imc.held]

/-! ### Every command -/

/-- The commands that count in a block other than IMC, and those that write every block. -/
def writesCounts : Instr → Bool
  | .meterPulse | .countSecond | .accumulationMinute | .fillWaterMillilitre | .heatEndAtFest _ _
  | .completionAtFest _ => true
  | c => writesAnyBlock c

/-- What the ranges are of, but for the fill seconds. -/
def countsOf (s : State) : (Nat × Nat) × Fest × Nat × Nat × Nat :=
  (meterOf s.wpu, s.fest, secondsOf s.scan)

theorem componentOnly_counts : ComponentOnly countsOf := ⟨fun _ _ => rfl, fun _ _ => rfl⟩

/-- Every other command leaves those counts as they are. -/
theorem exec_counts {c : Instr} {s t : State} (hc : writesCounts c = false) (h : exec c s = .next t) :
    countsOf t = countsOf s := by
  have hget := componentOnly_counts
  cases c
  all_goals first | cases hc; done | dsimp only [exec] at h
  case switchPinChange =>
    cases h
    rfl
  case railBelowEntry | railAboveExit | railFallsBack =>
    exact (perform_component hget h fun _ => by simp [countsOf]).trans (by simp [countsOf])
  case noFlowExpiry =>
    exact perform_expiry_component hget h fun _ _ => by
      simp only [countsOf, closeCoil_meter, closeCoil_frame]
      rfl
  case settleWindowExpiry =>
    refine perform_expiry_component hget h fun _ _ => ?_
    dsimp only
    split
    · simp only [countsOf, endGrant_meter, endGrant_frame]
      rfl
    · rfl
  case heatSecond | creditInterval | harvestSecond =>
    refine perform_expiry_component hget h fun _ _ => ?_
    split <;> simp [countsOf]
  case imcStateAtDfc | tHandBack | binBeamAtImc | preemptionCountAtImc | fillEndAtImc =>
    refine perform_component hget h fun _ => ?_
    split <;> simp [countsOf]
  case readWatermarks | leakLatchClear => exact perform_component hget h fun _ => rfl
  case leakMinute => exact perform_expiry_component hget h fun _ _ => rfl
  all_goals first
    | exact perform_expiry_component hget h fun _ _ => by simp [countsOf]
    | exact perform_component hget h fun _ => by simp [countsOf]

theorem readsBlocksOnly_counts : ReadsBlocksOnly CountsInRange :=
  ⟨fun _ _ h => h, fun _ _ h => h, fun _ _ h => h, fun _ _ h => h⟩

theorem countsInRange_of_eq {s t : State} (hs : CountsInRange s) (hcounts : countsOf t = countsOf s)
    (hfill : t.imc.fillSeconds ≤ 20) : CountsInRange t := by
  simp only [countsOf, meterOf, secondsOf, Prod.mk.injEq] at hcounts
  obtain ⟨⟨hres, hk⟩, hfest, hfz, hff, hcmp⟩ := hcounts
  obtain ⟨hmeter, ht, he, hw, hseconds, -⟩ := hs
  rw [CountsInRange, hres, hk, hfest, hfz, hff, hcmp]
  exact ⟨hmeter, ht, he, hw, hseconds, hfill⟩

/-- The fill seconds stand, are cleared, or count up to their limit. -/
theorem exec_fillSeconds {c : Instr} {s t : State} (hc : writesAnyBlock c = false)
    (hs : s.imc.fillSeconds ≤ 20) (h : exec c s = .next t) : t.imc.fillSeconds ≤ 20 := by
  cases hk : keepsFills c with
  | true =>
    rcases (exec_iceKept hk h).seconds with hn | hn <;> omega
  | false =>
    cases hi : writesImc c with
    | false => rwa [exec_imc hi h]
    | true =>
      have hP : ReadsBlocksOnly fun s => s.imc.fillSeconds ≤ 20 :=
        ⟨fun _ _ h => h, fun _ _ h => h, fun _ _ h => h, fun _ _ h => h⟩
      cases c
      all_goals first | cases hk; done | cases hc; done | cases hi; done | dsimp only [exec] at h
      case grantedAtImc target =>
        exact perform_keeps (P := fun s => s.imc.fillSeconds ≤ 20) h hP hs fun u hu =>
          (takeGrant_fillSeconds u target).trans_le hu
      case fillSecond =>
        refine perform_expiry_keeps (P := fun s => s.imc.fillSeconds ≤ 20) h hP hs fun due u _ => ?_
        unfold takeFillSecond
        dsimp only
        split <;> exact Nat.min_le_left _ _

/-- Each count stays in its range at the commands that count. -/
theorem exec_keeps_counts (c : Instr) (s t : State) (hs : CountsInRange s)
    (h : exec c s = .next t) : CountsInRange t := by
  have hP := readsBlocksOnly_counts
  cases hc : writesCounts c with
  | false =>
    have hany : writesAnyBlock c = false := by cases c <;> first | rfl | cases hc
    have ⟨_, _, _, _, _, hfill⟩ := hs
    exact countsInRange_of_eq hs (exec_counts hc h) (exec_fillSeconds hany hfill h)
  | true =>
    cases c
    all_goals first | cases hc; done | skip
    case powerOn | supplyLow | resetLine | resetnRise | supplyRiseAboveResetLevel =>
      exact exec_reset_keeps hP restart_counts rfl hs h
    all_goals dsimp only [exec] at h
    case setParam id value =>
      exact perform_keeps h hP hs fun _ hu => setParam_counts id value hu
    case replyEnd =>
      exact perform_expiry_keeps h hP hs fun _ _ hu => endReply_keeps restart_counts (fun _ _ hu => hu) hu
    case meterPulse =>
      refine perform_keeps h hP hs fun u hu => ⟨takePulse_residue hu.1, ?_⟩
      simpa only [takePulse_frame] using hu.2
    case countSecond =>
      refine perform_expiry_keeps h hP hs fun due u ⟨hmeter, ht, he, hw, ⟨hfz, hff, hcmp⟩, hfill⟩ => ?_
      exact ⟨hmeter, ht, he, hw,
        ⟨countSwitch_le _ hfz, countSwitch_le _ hff, countSwitch_le _ hcmp⟩, hfill⟩
    case accumulationMinute =>
      exact perform_expiry_keeps h hP hs fun due _ hu => takeMinute_counts due hu
    case fillWaterMillilitre =>
      exact perform_keeps h hP hs fun u ⟨hmeter, ht, he, _, hrest⟩ =>
        ⟨hmeter, ht, he, Nat.min_le_left _ _, hrest⟩
    case heatEndAtFest cause on =>
      exact perform_keeps h hP hs fun u ⟨hmeter, ht, hrest⟩ =>
        ⟨hmeter, adaptedT_inRange _ _ _ ht, hrest⟩
    case completionAtFest cause =>
      refine perform_keeps h hP hs fun u ⟨hmeter, ht, he, hrest⟩ => ⟨hmeter, ht, ?_, hrest⟩
      dsimp only [State.withFest]
      split
      · exact Nat.zero_le _
      · exact he

/-- Settles O9: the ranges are kept command by command. -/
theorem stepKeepsCountsInRange : Obligations.StepKeepsCountsInRange :=
  fun _ _ hs h => step_keeps readsBlocksOnly_counts exec_keeps_counts hs h

end Sys2Proof.Machine
end

section
/-! The dispense queue sound (R107, R118, R119), at every command. -/

namespace Sys2Proof.Machine

open Sys2Proof Sys2Proof.Safety

/-! ### The queue -/

/-- The tags of the portions in a queue. -/
def portionTags (q : List Entry) : List Byte :=
  (q.filter fun e => decide (e.kind = .portion)).map (·.tag)

/-- R107: at most four entries, only the oldest active, no tag twice. -/
structure EntriesSound (q : List Entry) : Prop where
  length : q.length ≤ 4
  queued : ∀ e ∈ q.tail, e.state = .queued
  nodup : (portionTags q).Nodup

/-- What DSC keeps: its queue sound, the chilled estimate within the tank, and the latch only with PADDLE
(R107, R118, R119). -/
structure DscSound (x : Dsc) : Prop where
  entries : EntriesSound x.queue
  estimate : x.c ≤ x.vTank
  latch : x.latch = true → x.paddle = true

theorem dispenseQueueSound_iff (x : Dsc) : DispenseQueueSound x ↔ DscSound x :=
  ⟨fun ⟨hlen, hq, hn, hc, hlatch⟩ => ⟨⟨hlen, hq, hn⟩, hc, hlatch⟩,
    fun ⟨⟨hlen, hq, hn⟩, hc, hlatch⟩ => ⟨hlen, hq, hn, hc, hlatch⟩⟩

theorem portionTags_sublist {p q : List Entry} (h : p.Sublist q) :
    (portionTags p).Sublist (portionTags q) :=
  (h.filter _).map _

theorem entriesSound_nil : EntriesSound [] := ⟨by simp, by simp, by simp [portionTags]⟩

theorem entriesSound_singleton (e : Entry) : EntriesSound [e] := by
  refine ⟨by simp, by simp, ?_⟩
  cases hk : decide (e.kind = .portion) <;> simp [portionTags, hk]

/-- The oldest entry replaced by one of the same tag and kind. -/
theorem EntriesSound.replaceHead {e e' : Entry} {q : List Entry} (h : EntriesSound (e :: q))
    (htag : e'.tag = e.tag) (hkind : e'.kind = e.kind) : EntriesSound (e' :: q) := by
  refine ⟨h.length, h.queued, ?_⟩
  have htags : portionTags (e' :: q) = portionTags (e :: q) := by
    unfold portionTags
    rw [List.filter_cons, List.filter_cons, hkind]
    split <;> simp [htag]
  exact htags ▸ h.nodup

theorem EntriesSound.onHead {q : List Entry} {f : Entry → Entry} (h : EntriesSound q)
    (htag : ∀ e, (f e).tag = e.tag) (hkind : ∀ e, (f e).kind = e.kind) :
    EntriesSound (Machine.onHead f q) := by
  cases q with
  | nil => exact h
  | cons e rest => exact h.replaceHead (htag e) (hkind e)

theorem EntriesSound.tail {q : List Entry} (h : EntriesSound q) : EntriesSound q.tail :=
  ⟨q.length_tail ▸ (Nat.sub_le _ 1).trans h.length, fun e he => h.queued e (List.mem_of_mem_tail he),
    h.nodup.sublist (portionTags_sublist q.tail_sublist)⟩

theorem EntriesSound.filter {q : List Entry} (h : EntriesSound q) (p : Entry → Bool) :
    EntriesSound (q.filter p) := by
  refine ⟨(q.length_filter_le p).trans h.length, fun e he => ?_,
    h.nodup.sublist (portionTags_sublist List.filter_sublist)⟩
  cases q with
  | nil => cases he
  | cons a rest =>
    rw [List.filter_cons] at he
    split at he
    · exact h.queued e (List.mem_filter.1 he).1
    · exact h.queued e (List.mem_filter.1 (List.mem_of_mem_tail he)).1

/-- R107, R108: a queued entry of a new tag at the end of a queue with room. -/
theorem EntriesSound.append {q : List Entry} {e : Entry} (h : EntriesSound q) (hroom : q.length < 4)
    (hstate : e.state = .queued) (hnew : ∀ x ∈ q, x.tag ≠ e.tag) : EntriesSound (q ++ [e]) := by
  refine ⟨by simpa using hroom, fun x hx => ?_, ?_⟩
  · cases q with
    | nil => cases hx
    | cons a rest =>
      rcases List.mem_append.1 hx with hx | hx
      · exact h.queued x hx
      · exact List.mem_singleton.1 hx ▸ hstate
  · unfold portionTags
    rw [List.filter_append, List.map_append, List.nodup_append]
    refine ⟨h.nodup, (entriesSound_singleton e).nodup, fun a ha b hb hab => ?_⟩
    obtain ⟨x, hx, rfl⟩ := List.mem_map.1 ha
    obtain ⟨y, hy, rfl⟩ := List.mem_map.1 hb
    obtain rfl := List.mem_singleton.1 (List.mem_filter.1 hy).1
    exact hnew x (List.mem_filter.1 hx).1 hab

/-! ### The operations of DSC -/

/-- A DSC that has its queue changed, and the chilled estimate, the tank, the latch and PADDLE as they
were. -/
theorem DscSound.withQueue {x : Dsc} (h : DscSound x) {q : List Entry} (hq : EntriesSound q) :
    DscSound { x with queue := q } :=
  ⟨hq, h.estimate, h.latch⟩

theorem completeHead_sound {s : State} (e : Entry) (cause : Completion)
    (h : DscSound s.dsc) : DscSound (completeHead s e cause).dsc :=
  ⟨h.entries.tail, h.estimate, completeHead_latch e cause h.latch⟩

theorem claimDispense_sound {s : State} (e : Entry) (h : DscSound s.dsc) :
    DscSound (claimDispense s e).dsc :=
  ⟨h.entries.onHead (fun _ => rfl) (fun _ => rfl), h.estimate, h.latch⟩

theorem testActivation_sound {s : State} (h : DscSound s.dsc) :
    DscSound (testActivation s).dsc := by
  unfold testActivation
  split
  · split
    · split
      · exact completeHead_sound _ _ h
      · exact claimDispense_sound _ h
    · exact h
  · exact h

theorem stopFlow_sound {s : State} (cause : Completion) (h : DscSound s.dsc) :
    DscSound (stopFlow s cause).dsc :=
  ⟨h.entries.onHead (fun _ => rfl) (fun _ => rfl), h.estimate, h.latch⟩

theorem restop_sound {s : State} (cause : Completion) (h : DscSound s.dsc) :
    DscSound (restop s cause).dsc := by
  unfold restop
  split
  · exact ⟨h.entries.onHead (fun _ => rfl) (fun _ => rfl), h.estimate, h.latch⟩
  · exact h

theorem stopEntry_sound {s : State} (e : Entry) (cause : Completion) (h : DscSound s.dsc) :
    DscSound (stopEntry s e cause).dsc := by
  unfold stopEntry
  split
  · exact completeHead_sound _ _ ⟨h.entries, h.estimate, h.latch⟩
  · split
    · exact stopFlow_sound _ h
    · exact restop_sound _ h
  · exact h

/-- R108: an accepted portion finds room, and no entry of its tag. -/
theorem portionRefusal_eq_none {q : List Entry} {tag options : Byte}
    (h : portionRefusal q tag options = none) : q.length < 4 ∧ ∀ x ∈ q, x.tag ≠ tag := by
  unfold portionRefusal at h
  split at h
  · cases h
  · split at h
    · cases h
    · split at h
      · cases h
      · split at h
        · cases h
        · rename_i hany hroom
          refine ⟨by simpa using hroom, fun x hx htag => hany ?_⟩
          exact List.any_eq_true.2 ⟨x, hx, by simpa using htag⟩

theorem dispensePortion_sound {s : State} (tag : Byte) (volume : BitVec 16) (options : Byte)
    (h : DscSound s.dsc) : DscSound (dispensePortion s tag volume options).dsc := by
  unfold dispensePortion
  split
  · exact h
  · rename_i hnone
    obtain ⟨hroom, hnew⟩ := portionRefusal_eq_none hnone
    dsimp only
    rw [answer_dsc]
    exact testActivation_sound (h.withQueue (h.entries.append hroom rfl hnew))

theorem dispenseCancel_sound {s : State} (tag : Byte) (h : DscSound s.dsc) :
    DscSound (dispenseCancel s tag).dsc := by
  unfold dispenseCancel
  split
  · exact h
  · split
    · exact h
    · dsimp only
      rw [answer_dsc]
      split
      · exact h.withQueue (h.entries.filter _)
      · exact stopEntry_sound _ _ h

theorem takeDispGrant_sound {s : State} (h : DscSound s.dsc) :
    DscSound (takeDispGrant s).dsc := by
  unfold takeDispGrant
  split
  · split
    · exact ⟨h.entries.onHead (fun _ => rfl) (fun _ => rfl), h.estimate, h.latch⟩
    · exact ⟨h.entries, h.estimate, h.latch⟩
  · exact ⟨h.entries, h.estimate, h.latch⟩

theorem takeDispClosed_sound {s : State} (h : DscSound s.dsc) :
    DscSound (takeDispClosed s).dsc := by
  unfold takeDispClosed
  split
  · exact ⟨h.entries.onHead (fun _ => rfl) (fun _ => rfl), h.estimate, h.latch⟩
  · exact h

theorem takeDispSettled_sound {s : State} (cause : CloseCause) (h : DscSound s.dsc) :
    DscSound (takeDispSettled s cause).dsc := by
  unfold takeDispSettled
  dsimp only
  split
  · split
    · exact completeHead_sound _ _ ⟨h.entries, h.estimate, h.latch⟩
    · exact completeHead_sound _ _ ⟨h.entries, h.estimate, h.latch⟩
  · exact testActivation_sound ⟨h.entries, h.estimate, h.latch⟩

theorem takeDispMillilitre_sound {s : State} (h : DscSound s.dsc) :
    DscSound (takeDispMillilitre s).dsc := by
  have hless : DscSound { s.dsc with c := s.dsc.c - 1 } :=
    ⟨h.entries, (Nat.sub_le _ 1).trans h.estimate, h.latch⟩
  unfold takeDispMillilitre
  dsimp only
  split
  · exact ⟨hless.entries.onHead (fun _ => rfl) (fun _ => rfl), hless.estimate, hless.latch⟩
  · exact ⟨hless.entries, hless.estimate, hless.latch⟩

/-- The entry that flows is the oldest. -/
theorem flowingEntry_eq_some {q : List Entry} {e : Entry} (h : flowingEntry q = some e) :
    ∃ rest, q = e :: rest := by
  cases q with
  | nil => cases h
  | cons a rest =>
    simp only [flowingEntry] at h
    split at h
    · cases h
      exact ⟨rest, rfl⟩
    · cases h

theorem takeFlowSecond_sound {s : State} (due : Nat) (h : DscSound s.dsc) :
    DscSound (takeFlowSecond s due).dsc := by
  unfold takeFlowSecond
  split
  · rename_i e hflow
    obtain ⟨rest, hq⟩ := flowingEntry_eq_some hflow
    split
    · have hcounted : EntriesSound ({ e with openSeconds := satAdd 120 e.openSeconds 1 } :: rest) :=
        (hq ▸ h.entries).replaceHead rfl rfl
      have hsound := h.withQueue hcounted
      simp only [hq, onHead, Config.portionLimit_eq]
      split
      · exact stopEntry_sound _ _ ⟨hsound.entries, hsound.estimate, hsound.latch⟩
      · exact ⟨hsound.entries, hsound.estimate, hsound.latch⟩
    · exact ⟨h.entries, h.estimate, h.latch⟩
  · exact ⟨h.entries, h.estimate, h.latch⟩

/-- R117: a press finds PADDLE asserted, so the latch may be set. -/
theorem pressPaddle_sound {s : State} (hpaddle : s.dsc.paddle = true) (h : DscSound s.dsc) :
    DscSound (pressPaddle s).dsc := by
  have hlatched : DscSound { s.dsc with latch := true } :=
    ⟨h.entries, h.estimate, fun _ => hpaddle⟩
  unfold pressPaddle
  split
  · exact claimDispense_sound _ (h.withQueue (entriesSound_singleton _))
  · dsimp only
    split
    · split
      · exact stopEntry_sound _ _ hlatched
      · exact hlatched
    · exact hlatched

/-- R118: a release clears the latch, or finds it clear. -/
theorem releasePaddle_sound {s : State} (h : DscSound s.dsc) :
    DscSound (releasePaddle (s.withPaddle false)).dsc := by
  have hclear (x : Dsc) (hx : x.queue = s.dsc.queue ∧ x.c = s.dsc.c ∧ x.vTank = s.dsc.vTank)
      (hlatch : x.latch = false) : DscSound x := by
    obtain ⟨hqueue, hc, htank⟩ := hx
    refine ⟨hqueue ▸ h.entries, ?_, fun hl => by simp [hlatch] at hl⟩
    rw [hc, htank]
    exact h.estimate
  unfold releasePaddle
  split
  · exact testActivation_sound (hclear _ ⟨rfl, rfl, rfl⟩ rfl)
  · rename_i hlatch
    have hs := hclear (s.withPaddle false).dsc ⟨rfl, rfl, rfl⟩ (by simpa using hlatch)
    split
    · split
      · exact stopEntry_sound _ _ hs
      · exact hs
    · exact hs

theorem correctEstimate_le (wt : ChannelRec) {vTank c : Nat} (h : c ≤ vTank) :
    correctEstimate wt vTank c ≤ vTank := by
  unfold correctEstimate
  split
  · split
    · exact le_rfl
    · split
      · exact Nat.zero_le _
      · exact h
  · exact h

theorem takeRecovery_sound {s : State} (due : Nat) (h : DscSound s.dsc) :
    DscSound (takeRecovery s due).dsc :=
  ⟨h.entries, correctEstimate_le _ (Nat.min_le_left _ _), h.latch⟩

/-- V_TANK limits the estimate; the other parameters leave the queue, the estimate and the tank. -/
theorem storeParam_dispenseQueue {s : State} (p : Param) (v : Int) (h : DscSound s.dsc) :
    DscSound (storeParam s p v).dsc := by
  cases p
  case vTank => exact ⟨h.entries, Nat.min_le_right _ _, h.latch⟩
  case chillRate | paddleMax => exact ⟨h.entries, h.estimate, h.latch⟩
  case ductDuty =>
    simp only [storeParam, storeDuctDuty, changeTraceDuty_frame]
    exact ⟨h.entries, h.estimate, h.latch⟩
  all_goals simpa [storeParam, State.withChannel] using h

theorem setParam_dispenseQueue {s : State} (id : Byte) (value : BitVec 32)
    (h : DscSound s.dsc) : DscSound (setParam s id value).dsc := by
  unfold setParam
  split
  · exact h
  · exact storeParam_dispenseQueue _ _ h

theorem startUp_dsc (s : State) :
    (startUp s).dsc = { s.dsc with minuteTimer := some (s.now + 60000) } := by
  simp [startUp, startTimers, loadValues]

theorem startUp_dispenseQueue {s : State} (h : DscSound s.dsc) : DscSound (startUp s).dsc := by
  rw [startUp_dsc]
  exact ⟨h.entries, h.estimate, h.latch⟩

theorem restart_dispenseQueue (s : State) (causes : ResetCauses) :
    DscSound (restart s causes).dsc := by
  refine restart_keeps (P := fun u => DscSound u.dsc) (fun _ _ => ?_)
    (fun _ => startUp_dispenseQueue) s causes
  exact ⟨entriesSound_nil, Nat.zero_le _, nofun⟩

/-! ### Every command -/

/-- The commands of DSC, and those that write every block. -/
def writesDsc : Instr → Bool
  | .dispensePortion _ _ _ | .dispenseCancel _ | .spacingExpiry | .grantedAtDsc | .closedAtDsc _
  | .settledAtDsc _ _ | .withdrawnAtDsc | .millilitreAtDsc | .flowSecond | .paddleAssertion
  | .paddleRelease | .recoveryMinute => true
  | c => writesAnyBlock c

theorem componentOnly_dsc : ComponentOnly State.dsc := ⟨fun _ _ => rfl, fun _ _ => rfl⟩

/-- Every other command leaves DSC as it is. -/
theorem exec_dsc {c : Instr} {s t : State} (hc : writesDsc c = false) (h : exec c s = .next t) :
    t.dsc = s.dsc := by
  have hget := componentOnly_dsc
  cases c
  all_goals first | cases hc; done | dsimp only [exec] at h
  case switchPinChange =>
    cases h
    simp
  case railBelowEntry | railAboveExit | railFallsBack =>
    exact (perform_component hget h fun _ => by simp).trans (by simp)
  case settleWindowExpiry =>
    refine perform_expiry_component hget h fun _ _ => ?_
    dsimp only
    split <;> simp
  case heatSecond | creditInterval | harvestSecond =>
    refine perform_expiry_component hget h fun _ _ => ?_
    split <;> simp
  case imcStateAtDfc | tHandBack | binBeamAtImc | preemptionCountAtImc | fillEndAtImc =>
    refine perform_component hget h fun _ => ?_
    split <;> simp
  all_goals first
    | exact perform_expiry_component hget h fun _ _ => by simp
    | exact perform_component hget h fun _ => by simp

theorem readsBlocksOnly_dispenseQueue : ReadsBlocksOnly fun s => DscSound s.dsc :=
  ⟨fun _ _ h => h, fun _ _ h => h, fun _ _ h => h, fun _ _ h => h⟩

/-- The operations of DSC keep its queue sound, and the other commands leave DSC as it is. -/
theorem exec_keeps_dispenseQueue (c : Instr) (s t : State) (hs : DscSound s.dsc)
    (h : exec c s = .next t) : DscSound t.dsc := by
  have hP := readsBlocksOnly_dispenseQueue
  cases hc : writesDsc c with
  | false => rwa [exec_dsc hc h]
  | true =>
    cases c
    all_goals first | cases hc; done | skip
    case powerOn | supplyLow | resetLine | resetnRise | supplyRiseAboveResetLevel =>
      exact exec_reset_keeps (P := fun u => DscSound u.dsc) hP restart_dispenseQueue rfl hs h
    all_goals dsimp only [exec] at h
    case setParam id value =>
      exact perform_keeps h hP hs fun _ hu => setParam_dispenseQueue id value hu
    case replyEnd =>
      exact perform_expiry_keeps h hP hs fun _ _ hu =>
        endReply_keeps (P := fun u => DscSound u.dsc) restart_dispenseQueue
          (fun _ _ hu => hu) hu
    case dispensePortion tag volume options =>
      exact perform_keeps h hP hs fun _ hu => dispensePortion_sound tag volume options hu
    case dispenseCancel tag => exact perform_keeps h hP hs fun _ hu => dispenseCancel_sound tag hu
    case spacingExpiry =>
      exact perform_expiry_keeps h hP hs fun _ _ hu =>
        testActivation_sound ⟨hu.entries, hu.estimate, hu.latch⟩
    case grantedAtDsc => exact perform_keeps h hP hs fun _ hu => takeDispGrant_sound hu
    case closedAtDsc => exact perform_keeps h hP hs fun _ hu => takeDispClosed_sound hu
    case settledAtDsc cause _ => exact perform_keeps h hP hs fun _ hu => takeDispSettled_sound cause hu
    case withdrawnAtDsc => exact perform_keeps h hP hs fun _ hu =>
        testActivation_sound ⟨hu.entries, hu.estimate, hu.latch⟩
    case millilitreAtDsc => exact perform_keeps h hP hs fun _ hu => takeDispMillilitre_sound hu
    case flowSecond =>
      exact perform_expiry_keeps h hP hs fun due _ hu => takeFlowSecond_sound due hu
    case paddleAssertion =>
      exact perform_keeps h hP hs fun _ hu =>
        pressPaddle_sound rfl ⟨hu.entries, hu.estimate, fun _ => rfl⟩
    case paddleRelease => exact perform_keeps h hP hs fun _ hu => releasePaddle_sound hu
    case recoveryMinute =>
      exact perform_expiry_keeps h hP hs fun due _ hu => takeRecovery_sound due hu

/-- Settles O8: an invariant of DSC alone, kept command by command. -/
theorem stepKeepsDispenseQueueSound : Obligations.StepKeepsDispenseQueueSound :=
  fun _ _ hs h => (dispenseQueueSound_iff _).2 <|
    step_keeps readsBlocksOnly_dispenseQueue exec_keeps_dispenseQueue
      ((dispenseQueueSound_iff _).1 hs) h

end Sys2Proof.Machine
end

section
/-! The load table: what an evaluation grants and what a return gives up (R126, R128, R130). -/

namespace Sys2Proof.Machine

open Sys2Proof Sys2Proof.Safety

/-! ### The table by name -/

@[simp] theorem getLoad_setLoad_self (l : Loads) (x : Load) (e : LoadEntry) :
    getLoad (setLoad l x e) x = e := by
  cases x <;> rfl

theorem getLoad_setLoad_of_ne (l : Loads) {x y : Load} (e : LoadEntry) (h : y ≠ x) :
    getLoad (setLoad l x e) y = getLoad l y := by
  cases x <;> cases y <;> first | rfl | exact absurd rfl h

@[simp] theorem getLoad_mapLoads (f : LoadEntry → LoadEntry) (l : Loads) (x : Load) :
    getLoad (mapLoads f l) x = f (getLoad l x) := by
  cases x <;> rfl

theorem mem_loadOrder (x : Load) : x ∈ loadOrder := by cases x <;> decide

/-! ### The ON total (R126) -/

theorem onTotal_eq_sum (l : Loads) :
    onTotal l = (loadOrder.map fun x => wattsOn (getLoad l x)).sum := by
  simp [onTotal, loadOrder, getLoad, Nat.add_assoc]

/-- One entry replaced: its own watts leave the total, and the new ones come in. -/
theorem onTotal_setLoad (l : Loads) (x : Load) (e : LoadEntry) :
    onTotal (setLoad l x e) + wattsOn (getLoad l x) = onTotal l + wattsOn e := by
  cases x <;> simp only [onTotal, setLoad, getLoad] <;> omega

theorem onTotal_le_of_watts {l m : Loads} (h : ∀ x, wattsOn (getLoad l x) ≤ wattsOn (getLoad m x)) :
    onTotal l ≤ onTotal m := by
  rw [onTotal_eq_sum, onTotal_eq_sum]
  exact List.sum_le_sum fun x _ => h x

theorem wattsOn_of_on {e : LoadEntry} (h : e.state = .on) : wattsOn e = e.rated := if_pos h

theorem wattsOn_of_not_on {e : LoadEntry} (h : e.state ≠ .on) : wattsOn e = 0 := if_neg h

theorem onTotal_eq_zero {l : Loads} (h : ∀ x, (getLoad l x).state ≠ .on) : onTotal l = 0 := by
  rw [onTotal_eq_sum, List.sum_eq_zero_iff]
  intro n hn
  obtain ⟨x, -, rfl⟩ := List.mem_map.1 hn
  exact wattsOn_of_not_on (h x)

/-! ### The grant evaluation (R128) -/

section
variable (now budget : Nat)

theorem grantIfFits_of_ne (l : Loads) {x y : Load} (h : y ≠ x) :
    getLoad (grantIfFits now budget l x) y = getLoad l y := by
  unfold grantIfFits
  dsimp only
  split
  · exact getLoad_setLoad_of_ne _ _ h
  · rfl

theorem grantIfFits_self (l : Loads) (x : Load) :
    getLoad (grantIfFits now budget l x) x =
      if (getLoad l x).state = .waiting ∧ onTotal l + (getLoad l x).rated ≤ budget then
        grantEntry now (getLoad l x)
      else getLoad l x := by
  unfold grantIfFits
  dsimp only
  split <;> simp

/-- The scan changes only the entries it passes. -/
theorem foldl_grant_of_not_mem (xs : List Load) (l : Loads) {y : Load} (h : y ∉ xs) :
    getLoad (xs.foldl (grantIfFits now budget) l) y = getLoad l y := by
  induction xs generalizing l with
  | nil => rfl
  | cons x xs ih =>
    rw [List.mem_cons, not_or] at h
    rw [List.foldl_cons, ih _ h.2, grantIfFits_of_ne now budget l h.1]

theorem wattsOn_grantIfFits (l : Loads) (x y : Load) :
    wattsOn (getLoad l y) ≤ wattsOn (getLoad (grantIfFits now budget l x) y) := by
  by_cases hy : y = x
  · subst hy
    rw [grantIfFits_self]
    split
    · rename_i h
      rw [wattsOn_of_not_on (by simp [h.1])]
      exact Nat.zero_le _
    · exact le_rfl
  · rw [grantIfFits_of_ne now budget l hy]

/-- The ON total only grows in an evaluation. -/
theorem onTotal_le_foldl_grant (xs : List Load) (l : Loads) :
    onTotal l ≤ onTotal (xs.foldl (grantIfFits now budget) l) := by
  induction xs generalizing l with
  | nil => exact le_rfl
  | cons x xs ih =>
    exact (onTotal_le_of_watts (wattsOn_grantIfFits now budget l x)).trans (ih _)

theorem onTotal_grantIfFits_le {l : Loads} (x : Load) (h : onTotal l ≤ budget) :
    onTotal (grantIfFits now budget l x) ≤ budget := by
  unfold grantIfFits
  dsimp only
  split
  · rename_i hx
    have hset := onTotal_setLoad l x (grantEntry now (getLoad l x))
    have hgrant : wattsOn (grantEntry now (getLoad l x)) = (getLoad l x).rated := if_pos rfl
    omega
  · exact h

/-- R128: an evaluation keeps the ON total within the budget. -/
theorem onTotal_evaluateLoads_le {l : Loads} (h : onTotal l ≤ budget) :
    onTotal (evaluateLoads now budget l) ≤ budget := by
  have hfold : ∀ xs : List Load, ∀ m, onTotal m ≤ budget →
      onTotal (xs.foldl (grantIfFits now budget) m) ≤ budget := by
    intro xs
    induction xs with
    | nil => exact fun _ hm => hm
    | cons x xs ih => exact fun m hm => ih _ (onTotal_grantIfFits_le now budget x hm)
  exact hfold _ _ h

/-- The table as the evaluation finds it when it comes to `x`: the loads of higher priority have been
passed. -/
def scannedTo (l : Loads) (x : Load) : Loads :=
  (loadOrder.take (loadOrder.idxOf x)).foldl (grantIfFits now budget) l

theorem mem_take_loadOrder (x y : Load) :
    y ∈ loadOrder.take (loadOrder.idxOf x) ↔ loadOrder.idxOf y < loadOrder.idxOf x := by
  cases x <;> cases y <;> decide

theorem loadOrder_split (x : Load) : loadOrder.take (loadOrder.idxOf x) ++
    x :: loadOrder.drop (loadOrder.idxOf x + 1) = loadOrder := by
  cases x <;> rfl

theorem evaluateLoads_split (l : Loads) (x : Load) : evaluateLoads now budget l =
    (loadOrder.drop (loadOrder.idxOf x + 1)).foldl (grantIfFits now budget)
      (grantIfFits now budget (scannedTo now budget l x) x) := by
  rw [evaluateLoads, scannedTo, ← List.foldl_cons (f := grantIfFits now budget), ← List.foldl_append,
    loadOrder_split]

theorem scannedTo_of_le (l : Loads) {x y : Load} (h : loadOrder.idxOf x ≤ loadOrder.idxOf y) :
    getLoad (scannedTo now budget l x) y = getLoad l y :=
  foldl_grant_of_not_mem now budget _ l fun hy => by
    rw [mem_take_loadOrder] at hy
    omega

theorem not_mem_drop_loadOrder {x y : Load} (h : loadOrder.idxOf y ≤ loadOrder.idxOf x) :
    y ∉ loadOrder.drop (loadOrder.idxOf x + 1) := by
  revert h
  cases x <;> cases y <;> decide

theorem scannedTo_of_lt (l : Loads) {x y : Load} (h : loadOrder.idxOf y < loadOrder.idxOf x) :
    getLoad (scannedTo now budget l x) y = getLoad (evaluateLoads now budget l) y := by
  have hne : y ≠ x := fun hy => by simp [hy] at h
  rw [evaluateLoads_split now budget l x,
    foldl_grant_of_not_mem now budget _ _ (not_mem_drop_loadOrder h.le),
    grantIfFits_of_ne now budget _ hne]

/-- R128: what an evaluation does to an entry. -/
theorem getLoad_evaluateLoads (l : Loads) (x : Load) : getLoad (evaluateLoads now budget l) x =
    if (getLoad l x).state = .waiting ∧
        onTotal (scannedTo now budget l x) + (getLoad l x).rated ≤ budget then
      grantEntry now (getLoad l x)
    else getLoad l x := by
  rw [evaluateLoads_split now budget l x,
    foldl_grant_of_not_mem now budget _ _ (not_mem_drop_loadOrder le_rfl), grantIfFits_self,
    scannedTo_of_le now budget l le_rfl]

theorem onTotal_scannedTo_le (l : Loads) (x : Load) :
    onTotal (scannedTo now budget l x) ≤ onTotal (evaluateLoads now budget l) := by
  rw [evaluateLoads_split now budget l x, ← List.foldl_cons (f := grantIfFits now budget)]
  exact onTotal_le_foldl_grant now budget _ _

end

/-! ### The return (R130) -/

section
variable (budget : Nat)

theorem returnIfOver_of_ne (l : Loads) {x y : Load} (h : y ≠ x) :
    getLoad (returnIfOver budget l x) y = getLoad l y := by
  unfold returnIfOver
  dsimp only
  split
  · exact getLoad_setLoad_of_ne _ _ h
  · rfl

theorem returnIfOver_self (l : Loads) (x : Load) :
    getLoad (returnIfOver budget l x) x =
      if (getLoad l x).state = .on ∧ budget < onTotal l then leaveOn (getLoad l x) .waiting
      else getLoad l x := by
  unfold returnIfOver
  dsimp only
  split <;> simp

theorem foldl_return_of_not_mem (xs : List Load) (l : Loads) {y : Load} (h : y ∉ xs) :
    getLoad (xs.foldl (returnIfOver budget) l) y = getLoad l y := by
  induction xs generalizing l with
  | nil => rfl
  | cons x xs ih =>
    rw [List.mem_cons, not_or] at h
    rw [List.foldl_cons, ih _ h.2, returnIfOver_of_ne budget l h.1]

/-- A return turns no entry ON. -/
theorem returnIfOver_not_on {l : Loads} (x : Load) {y : Load} (h : (getLoad l y).state ≠ .on) :
    (getLoad (returnIfOver budget l x) y).state ≠ .on := by
  by_cases hy : y = x
  · subst hy
    rw [returnIfOver_self, if_neg fun hon => h hon.1]
    exact h
  · rwa [returnIfOver_of_ne budget l hy]

theorem foldl_return_not_on (xs : List Load) {l : Loads} {y : Load} (h : (getLoad l y).state ≠ .on) :
    (getLoad (xs.foldl (returnIfOver budget) l) y).state ≠ .on := by
  induction xs generalizing l with
  | nil => exact h
  | cons x xs ih => exact ih (returnIfOver_not_on budget x h)

theorem onTotal_returnIfOver_le (l : Loads) (x : Load) : onTotal (returnIfOver budget l x) ≤ onTotal l := by
  refine onTotal_le_of_watts fun y => ?_
  by_cases hy : y = x
  · subst hy
    rw [returnIfOver_self]
    split
    · rw [wattsOn_of_not_on (by simp [leaveOn])]
      exact Nat.zero_le _
    · exact le_rfl
  · rw [returnIfOver_of_ne budget l hy]

theorem onTotal_foldl_return_le (xs : List Load) (l : Loads) :
    onTotal (xs.foldl (returnIfOver budget) l) ≤ onTotal l := by
  induction xs generalizing l with
  | nil => exact le_rfl
  | cons x xs ih => exact (ih _).trans (onTotal_returnIfOver_le budget l x)

/-- While the total stands above the budget, every entry the return has passed is not ON. -/
theorem foldl_return_over {xs : List Load} {l : Loads} {y : Load} (hy : y ∈ xs)
    (h : budget < onTotal (xs.foldl (returnIfOver budget) l)) :
    (getLoad (xs.foldl (returnIfOver budget) l) y).state ≠ .on := by
  induction xs generalizing l with
  | nil => cases hy
  | cons x xs ih =>
    rcases List.mem_cons.1 hy with rfl | hy
    · have hover : budget < onTotal l :=
        h.trans_le (onTotal_foldl_return_le budget (y :: xs) l)
      refine foldl_return_not_on budget xs ?_
      rw [returnIfOver_self]
      split
      · simp [leaveOn]
      · rename_i hn
        exact fun hon => hn ⟨hon, hover⟩
    · exact ih hy h

theorem foldl_return_of_le (xs : List Load) {l : Loads} (h : onTotal l ≤ budget) :
    xs.foldl (returnIfOver budget) l = l := by
  induction xs with
  | nil => rfl
  | cons x xs ih =>
    rw [List.foldl_cons, returnIfOver, if_neg fun hover => Nat.not_lt.2 h hover.2, ih]

theorem returnLoads_of_le {l : Loads} (h : onTotal l ≤ budget) : returnLoads budget l = l :=
  foldl_return_of_le budget _ h

/-- R130: a return brings the ON total within the budget. -/
theorem onTotal_returnLoads_le (l : Loads) : onTotal (returnLoads budget l) ≤ budget := by
  by_contra h
  have hoff : ∀ x, (getLoad (returnLoads budget l) x).state ≠ .on := fun x =>
    foldl_return_over budget (List.mem_reverse.2 (mem_loadOrder x)) (Nat.not_le.1 h)
  rw [onTotal_eq_zero hoff] at h
  omega

/-- The table as the return finds it when it comes to `x`: the loads of lower priority have been
passed. -/
def returnedTo (l : Loads) (x : Load) : Loads :=
  (loadOrder.drop (loadOrder.idxOf x + 1)).reverse.foldl (returnIfOver budget) l

theorem returnLoads_split (l : Loads) (x : Load) : returnLoads budget l =
    (loadOrder.take (loadOrder.idxOf x)).reverse.foldl (returnIfOver budget)
      (returnIfOver budget (returnedTo budget l x) x) := by
  rw [returnLoads, returnedTo, ← List.foldl_cons (f := returnIfOver budget), ← List.foldl_append]
  cases x <;> rfl

theorem returnedTo_of_le (l : Loads) {x y : Load} (h : loadOrder.idxOf y ≤ loadOrder.idxOf x) :
    getLoad (returnedTo budget l x) y = getLoad l y :=
  foldl_return_of_not_mem budget _ l fun hy => not_mem_drop_loadOrder h (List.mem_reverse.1 hy)

/-- R130: what a return does to an entry. -/
theorem getLoad_returnLoads (l : Loads) (x : Load) : getLoad (returnLoads budget l) x =
    if (getLoad l x).state = .on ∧ budget < onTotal (returnedTo budget l x) then
      leaveOn (getLoad l x) .waiting
    else getLoad l x := by
  have hx : x ∉ (loadOrder.take (loadOrder.idxOf x)).reverse := by
    rw [List.mem_reverse, mem_take_loadOrder]
    exact lt_irrefl _
  rw [returnLoads_split budget l x, foldl_return_of_not_mem budget _ _ hx, returnIfOver_self,
    returnedTo_of_le budget l le_rfl]

theorem mem_drop_loadOrder {x y : Load} (h : loadOrder.idxOf x < loadOrder.idxOf y) :
    y ∈ loadOrder.drop (loadOrder.idxOf x + 1) := by
  revert h
  cases x <;> cases y <;> decide

/-- Once an entry is returned, the total stood above the budget, and none of lower priority is ON. -/
theorem returnedTo_over (l : Loads) {x y : Load} (h : budget < onTotal (returnedTo budget l x))
    (hxy : loadOrder.idxOf x < loadOrder.idxOf y) :
    (getLoad (returnedTo budget l x) y).state ≠ .on :=
  foldl_return_over budget (List.mem_reverse.2 (mem_drop_loadOrder hxy)) h

theorem returnLoads_over (l : Loads) {x y : Load} (h : budget < onTotal (returnedTo budget l x))
    (hxy : loadOrder.idxOf x < loadOrder.idxOf y) :
    (getLoad (returnLoads budget l) y).state ≠ .on := by
  rw [returnLoads_split budget l x]
  exact foldl_return_not_on budget _ (returnIfOver_not_on budget x (returnedTo_over budget l h hxy))

end

/-! ### What was ON, summed (R128, R130) -/

theorem sum_map_filter (p : Load → Bool) (f : Load → Nat) (xs : List Load) :
    ((xs.filter p).map f).sum = (xs.map fun x => if p x then f x else 0).sum := by
  induction xs with
  | nil => rfl
  | cons x xs ih => cases hp : p x <;> simp [hp, ih]

/-- The power beside which a waiting entry must fit. -/
theorem onTotal_scannedTo (now budget : Nat) (l : Loads) (x : Load) :
    onTotal (scannedTo now budget l x) =
      ((loadOrder.filter fun y => decide ((getLoad l y).state = .on ∨
        ((getLoad (evaluateLoads now budget l) y).state = .on ∧
          loadOrder.idxOf y < loadOrder.idxOf x))).map fun y => (getLoad l y).rated).sum := by
  rw [onTotal_eq_sum, sum_map_filter]
  refine congrArg List.sum (List.map_congr_left fun y _ => ?_)
  simp only [decide_eq_true_eq]
  by_cases hy : loadOrder.idxOf y < loadOrder.idxOf x
  · rw [scannedTo_of_lt now budget l hy, getLoad_evaluateLoads]
    split
    · rename_i hgrant
      simp [wattsOn, grantEntry, hy]
    · simp [wattsOn, hy]
  · rw [scannedTo_of_le now budget l (Nat.not_lt.1 hy)]
    simp [wattsOn, hy]

/-- The ON power of the loads from the highest priority down to `x`. -/
theorem upTo_le_onTotal_returnedTo (budget : Nat) (l : Loads) (x : Load) :
    let upTo := ((loadOrder.filter fun y => decide ((getLoad l y).state = .on ∧
      loadOrder.idxOf y ≤ loadOrder.idxOf x)).map fun y => (getLoad l y).rated).sum
    upTo ≤ onTotal (returnedTo budget l x) ∧
      (budget < onTotal (returnedTo budget l x) → onTotal (returnedTo budget l x) = upTo) := by
  dsimp only
  rw [onTotal_eq_sum, sum_map_filter]
  simp only [decide_eq_true_eq]
  refine ⟨List.sum_le_sum fun y _ => ?_,
    fun hover => congrArg List.sum (List.map_congr_left fun y _ => ?_)⟩
  · split
    · rename_i hy
      rw [returnedTo_of_le budget l hy.2, wattsOn_of_on hy.1]
    · exact Nat.zero_le _
  · by_cases hy : loadOrder.idxOf y ≤ loadOrder.idxOf x
    · rw [returnedTo_of_le budget l hy]
      simp [wattsOn, hy]
    · rw [← onTotal_eq_sum] at hover
      rw [wattsOn_of_not_on (returnedTo_over budget l hover (Nat.not_le.1 hy)),
        if_neg fun hn => hy hn.2]

/-- Settles O55, from what the scan in priority order does to each entry. -/
theorem evaluationGrantsWhatFits : Obligations.EvaluationGrantsWhatFits := by
  refine ⟨onTotal_eq_sum, fun now budget l => ?_⟩
  have hgrant (x : Load) := getLoad_evaluateLoads now budget l x
  have hreturn (x : Load) := getLoad_returnLoads budget l x
  refine ⟨onTotal_evaluateLoads_le now budget, fun x => ⟨fun hw => ?_, fun _ => ?_, fun hw => ?_, ?_⟩,
    onTotal_returnLoads_le budget l, fun x => ?_, fun x y hon hoff hxy => ?_, fun x hon => ?_,
    returnLoads_of_le budget⟩
  · rw [hgrant, if_neg fun h => hw h.1]
  · rw [hgrant]
    split
    · exact .inr rfl
    · exact .inl rfl
  · have hiff : (getLoad (evaluateLoads now budget l) x).state = .on ↔
        onTotal (scannedTo now budget l x) + (getLoad l x).rated ≤ budget := by
      rw [hgrant]
      split
      · rename_i h
        exact iff_of_true rfl h.2
      · rename_i h
        exact iff_of_false (by simp [hw]) fun hfit => h ⟨hw, hfit⟩
    rw [onTotal_scannedTo] at hiff
    exact hiff
  · rw [hgrant]
    split
    · exact nofun
    · rename_i h
      intro hw
      have hle := onTotal_scannedTo_le now budget l x
      have hno : ¬ onTotal (scannedTo now budget l x) + (getLoad l x).rated ≤ budget :=
        fun hfit => h ⟨hw, hfit⟩
      omega
  · rw [hreturn]
    split
    · rename_i h
      exact .inr ⟨h.1, rfl⟩
    · exact .inl rfl
  · rw [hreturn] at hoff
    split at hoff
    · rename_i h
      exact returnLoads_over budget l h.2 hxy
    · exact absurd hon hoff
  · obtain ⟨hle, heq⟩ := upTo_le_onTotal_returnedTo budget l x
    rw [hreturn]
    split
    · rename_i h
      refine iff_of_false nofun fun hup => ?_
      rw [heq h.2] at h
      exact absurd hup (Nat.not_le.2 h.2)
    · rename_i h
      refine iff_of_true hon ?_
      exact hle.trans (Nat.not_lt.1 fun hover => h ⟨hon, hover⟩)

end Sys2Proof.Machine
end

section
/-! The ON total within the budget in force, and every load SHED or OFF in sag (R128, R136), at every
command. -/

namespace Sys2Proof.Machine

open Sys2Proof Sys2Proof.Safety

/-! ### The load table and the monitor -/

/-- R128, R136: outside sag the ON total is within the budget, and in sag no load is wanted or ON. -/
structure LdmSound (x : Ldm) : Prop where
  budget : x.monitor = .normal → onTotal x.loads ≤ x.budget
  sag : x.monitor = .sag → ∀ l, (getLoad x.loads l).state = .shed ∨ (getLoad x.loads l).state = .off

theorem onTotal_of_sag {l : Loads}
    (h : ∀ x, (getLoad l x).state = .shed ∨ (getLoad l x).state = .off) : onTotal l = 0 :=
  onTotal_eq_zero fun x hon => by rcases h x with hx | hx <;> simp [hon] at hx

theorem loadsWithinBudget_iff (x : Ldm) : LoadsWithinBudget x ↔ LdmSound x := by
  constructor
  · rintro ⟨hle, hsag⟩
    exact ⟨fun hm => by simpa [budgetInForce, hm] using hle, fun hm l => hsag hm l (mem_loadOrder l)⟩
  · rintro ⟨hle, hsag⟩
    refine ⟨?_, fun hm l _ => hsag hm l⟩
    cases hm : x.monitor with
    | normal => simpa [budgetInForce, hm] using hle hm
    | sag => simp [onTotal_of_sag (hsag hm)]

/-- The same table, budget and monitor. -/
theorem LdmSound.of_eq {x y : Ldm} (h : LdmSound x) (hl : y.loads = x.loads)
    (hb : y.budget = x.budget) (hm : y.monitor = x.monitor) : LdmSound y := by
  constructor
  · rw [hl, hb, hm]
    exact h.budget
  · rw [hl, hm]
    exact h.sag

/-- One entry replaced, by one that is ON with no more power than before or is not ON, and in sag SHED or
OFF. -/
theorem LdmSound.setLoad {x : Ldm} (h : LdmSound x) {l : Load} {e : LoadEntry}
    (hwatts : x.monitor = .normal → wattsOn e ≤ wattsOn (getLoad x.loads l))
    (hsag : x.monitor = .sag → e.state = .shed ∨ e.state = .off) :
    LdmSound { x with loads := Machine.setLoad x.loads l e } := by
  refine ⟨fun hm => ?_, fun hm y => ?_⟩
  · have hset := onTotal_setLoad x.loads l e
    have hw := hwatts hm
    have hb := h.budget hm
    dsimp only
    omega
  · by_cases hy : y = l
    · subst hy
      simpa using hsag hm
    · simpa [getLoad_setLoad_of_ne _ _ hy] using h.sag hm y

/-- The duty, the output or the period of an entry changed. -/
theorem LdmSound.sameState {x : Ldm} (h : LdmSound x) {l : Load} {e : LoadEntry}
    (hstate : e.state = (getLoad x.loads l).state) (hrated : e.rated = (getLoad x.loads l).rated) :
    LdmSound { x with loads := Machine.setLoad x.loads l e } :=
  h.setLoad (fun _ => by simp [wattsOn, hstate, hrated]) fun hm => hstate ▸ h.sag hm l

/-- R128: a grant evaluation, made in NORMAL. -/
theorem LdmSound.evaluate {x : Ldm} (h : LdmSound x) (now : Nat) (hm : x.monitor = .normal) :
    LdmSound { x with loads := evaluateLoads now x.budget x.loads } := by
  refine ⟨fun _ => ?_, fun hs => by simp [hm] at hs⟩
  dsimp only
  exact onTotal_evaluateLoads_le now x.budget (h.budget hm)

/-! ### The operations of LDM -/

theorem loadsSet_ldm (s : State) (l : Loads) : (loadsSet s l).ldm = { s.ldm with loads := l } := rfl

theorem requestLoad_sound {s : State} (x : Load) (duty : Nat) (h : LdmSound s.ldm) :
    LdmSound (requestLoad s x duty).ldm := by
  rw [requestLoad_eq]
  dsimp only
  split
  · rename_i hoff
    rw [loadsSet_ldm]
    have hwaiting := h.setLoad (l := x)
      (e := { s.load x with duty := requestedDuty x (s.load x) duty, state := .waiting })
      (fun _ => (wattsOn_of_not_on (by simp)).trans_le (Nat.zero_le _)) fun hm => by
        simp [hm] at hoff
    exact hwaiting.evaluate s.now hoff.2
  · rw [loadsSet_ldm]
    split
    · exact h.setLoad (fun _ => (wattsOn_of_not_on (by simp)).trans_le (Nat.zero_le _))
        fun _ => .inl rfl
    · exact h.sameState rfl rfl

theorem applyDuty_state (now : Nat) (e : LoadEntry) (duty : Nat) :
    (applyDuty now e duty).state = e.state ∧ (applyDuty now e duty).rated = e.rated := by
  unfold applyDuty
  dsimp only
  repeat' split
  all_goals exact ⟨rfl, rfl⟩

theorem changeDuty_sound {s : State} (x : Load) (duty : Nat) (h : LdmSound s.ldm) :
    LdmSound (changeDuty s x duty).ldm :=
  have hkeep := applyDuty_state s.now (s.load x)
  h.sameState (hkeep _).1 (hkeep _).2

theorem takeRequest_sound {s : State} (c : Instr) (h : LdmSound s.ldm) :
    LdmSound (takeRequest s c).ldm := by
  unfold takeRequest
  split
  · exact requestLoad_sound _ _ h
  · exact changeDuty_sound _ _ h
  · exact h

theorem foldl_takeRequest_sound (cs : List Instr) {s : State} (h : LdmSound s.ldm) :
    LdmSound (cs.foldl takeRequest s).ldm := by
  induction cs generalizing s with
  | nil => exact h
  | cons c cs ih => exact ih (takeRequest_sound c h)

theorem releaseEntry_sound {s : State} (x : Load) (h : LdmSound s.ldm) :
    LdmSound (releaseEntry s x).ldm := by
  have hoff : LdmSound { s.ldm with loads := setLoad s.ldm.loads x (leaveOn (s.load x) .off) } :=
    h.setLoad (fun _ => (wattsOn_of_not_on (by simp [leaveOn])).trans_le (Nat.zero_le _)) fun _ => .inr rfl
  rw [releaseEntry_eq]
  dsimp only
  split
  · exact h
  · split
    · exact hoff
    · rename_i hm
      refine hoff.evaluate s.now ?_
      cases hn : s.ldm.monitor with
      | normal => rfl
      | sag => exact absurd (.inr hn) hm

theorem releaseLoad_sound {s : State} (x : Load) (h : LdmSound s.ldm) :
    LdmSound (releaseLoad s x).ldm :=
  releaseEntry_sound x (foldl_takeRequest_sound _ h)

theorem stepDuty_state (e : LoadEntry) (p : DutyPeriod) :
    (stepDuty e p).state = e.state ∧ (stepDuty e p).rated = e.rated := by
  unfold stepDuty
  split <;> exact ⟨rfl, rfl⟩

theorem takeDutyPeriod_sound {s : State} (x : Load) (h : LdmSound s.ldm) :
    LdmSound (takeDutyPeriod s x).ldm := by
  unfold takeDutyPeriod
  dsimp only
  split
  · exact h.sameState (stepDuty_state _ _).1 (stepDuty_state _ _).2
  · exact h

theorem rebalance_of_sag {s : State} {l : Loads} (hm : s.ldm.monitor = .sag) :
    (rebalance s l).ldm = { s.ldm with loads := l } := by
  simp [rebalance, hm, commitLoads_eq, loadsSet]

theorem rebalance_of_normal {s : State} {l : Loads} (hm : s.ldm.monitor = .normal) :
    (rebalance s l).ldm = { s.ldm with
      loads := evaluateLoads s.now s.ldm.budget (returnLoads s.ldm.budget l) } := by
  simp [rebalance, hm, commitLoads_eq, loadsSet]

/-- R130: BUDGET or a rated power changes: outside sag the total is brought within the budget, whatever it
was. -/
theorem rebalance_sound {s : State} {l : Loads}
    (hsag : s.ldm.monitor = .sag → ∀ x, (getLoad l x).state = .shed ∨ (getLoad l x).state = .off) :
    LdmSound (rebalance s l).ldm := by
  cases hm : s.ldm.monitor with
  | sag =>
    rw [rebalance_of_sag hm]
    exact ⟨fun hn => by simp [hm] at hn, fun _ => hsag hm⟩
  | normal =>
    rw [rebalance_of_normal hm]
    refine ⟨fun _ => ?_, fun hn => by simp [hm] at hn⟩
    dsimp only
    exact onTotal_evaluateLoads_le s.now s.ldm.budget (onTotal_returnLoads_le s.ldm.budget l)

theorem storeRated_sound {s : State} (x : Load) (v : Nat) (h : LdmSound s.ldm) :
    LdmSound (storeRated s x v).ldm := by
  refine rebalance_sound fun hm y => ?_
  by_cases hy : y = x
  · subst hy
    simpa [State.load] using h.sag hm y
  · simpa [getLoad_setLoad_of_ne _ _ hy] using h.sag hm y

theorem storeBudget_sound {s : State} (v : Nat) (h : LdmSound s.ldm) :
    LdmSound (storeBudget s v).ldm :=
  rebalance_sound fun hm => h.sag hm

/-- R135: after a sag entry every load is SHED or OFF. -/
theorem sagEntry_sound (s : State) : LdmSound (sagEntry s).ldm := by
  have hldm : (sagEntry s).ldm.monitor = .sag ∧
      (sagEntry s).ldm.loads = mapLoads shedEntry s.ldm.loads := by
    unfold sagEntry
    dsimp only
    rw [commitLoads_eq]
    exact ⟨rfl, rfl⟩
  obtain ⟨hm, hl⟩ := hldm
  refine ⟨fun hn => by simp [hm] at hn, fun _ x => ?_⟩
  rw [hl, getLoad_mapLoads]
  cases hs : (getLoad s.ldm.loads x).state <;> simp [shedEntry, hs, leaveOn]

theorem onTotal_restore (l : Loads) : onTotal (mapLoads restoreEntry l) = onTotal l := by
  have hwatts (e : LoadEntry) : wattsOn (restoreEntry e) = wattsOn e := by
    cases hs : e.state <;> simp [restoreEntry, wattsOn, hs]
  simp [onTotal, mapLoads, hwatts]

theorem sagExit_ldm (s : State) : (sagExit s).ldm =
    { s.ldm with
      monitor := .normal, exitTimer := none,
      loads := evaluateLoads s.now s.ldm.budget (mapLoads restoreEntry s.ldm.loads) } := by
  simp [sagExit, settleLoads, commitLoads_eq, loadsSet]

/-- R137: the sag exit makes its evaluation within the budget: in sag nothing was ON. -/
theorem sagExit_sound {s : State} (h : LdmSound s.ldm) : LdmSound (sagExit s).ldm := by
  have hle : onTotal s.ldm.loads ≤ s.ldm.budget := by
    cases hm : s.ldm.monitor with
    | normal => exact h.budget hm
    | sag => simp [onTotal_of_sag (h.sag hm)]
  rw [sagExit_ldm]
  refine ⟨fun _ => ?_, nofun⟩
  dsimp only
  exact onTotal_evaluateLoads_le s.now s.ldm.budget ((onTotal_restore _).trans_le hle)

theorem railBelow_sound {s : State} (h : LdmSound s.ldm) : LdmSound (railBelow s).ldm := by
  unfold railBelow
  split
  · exact sagEntry_sound s
  · exact h.of_eq rfl rfl rfl

theorem railAbove_sound {s : State} (h : LdmSound s.ldm) : LdmSound (railAbove s).ldm := by
  unfold railAbove
  split
  · exact h.of_eq rfl rfl rfl
  · exact h

theorem railBack_sound {s : State} (h : LdmSound s.ldm) : LdmSound (railBack s).ldm := by
  unfold railBack
  split
  · exact h.of_eq rfl rfl rfl
  · exact h

/-! ### The acts of DFC and IMC that release a load -/

@[simp] theorem releaseLoad_withDfc_ldm (s : State) (x : Load) (d : Dfc) :
    (releaseLoad (s.withDfc d) x).ldm = (releaseLoad s x).ldm := by
  rw [State.withDfc, releaseLoad_withDfc]

@[simp] theorem releaseLoad_withImc_ldm (s : State) (x : Load) (i : Imc) :
    (releaseLoad (s.withImc i) x).ldm = (releaseLoad s x).ldm := by
  rw [State.withImc, releaseLoad_withImc]

@[simp] theorem endHeat_ldm (s : State) (cause : HeatEnd) :
    (endHeat s cause).ldm = (releaseLoad s .defHtr).ldm := by
  simp [endHeat]

@[simp] theorem enterOff_ldm (s : State) : (enterOff s).ldm =
    (releaseLoad (releaseLoad (releaseLoad s .moldHtr) .rakeMtr) .fillTubeHtr).ldm := by
  simp [enterOff]

@[simp] theorem endHarvestHeat_ldm (s : State) :
    (endHarvestHeat s).ldm = (releaseLoad s .moldHtr).ldm := by
  simp [endHarvestHeat]

theorem endHeat_sound {s : State} (cause : HeatEnd) (h : LdmSound s.ldm) :
    LdmSound (endHeat s cause).ldm := by
  rw [endHeat_ldm]
  exact releaseLoad_sound .defHtr h

theorem takeHeatSecond_sound {s : State} (due : Nat) (h : LdmSound s.ldm) :
    LdmSound (takeHeatSecond s due).ldm := by
  unfold takeHeatSecond
  dsimp only
  split
  · exact endHeat_sound _ h
  · exact h

theorem takeEv_sound {s : State} (status : ChannelStatus) (value : Option Temp)
    (h : LdmSound s.ldm) : LdmSound (takeEv s status value).ldm := by
  unfold takeEv evInHeat
  dsimp only
  repeat' split
  case h_2.isTrue => simpa using h
  all_goals first
    | exact h
    | exact endHeat_sound _ h

theorem abortDefrost_sound {s : State} (h : LdmSound s.ldm) : LdmSound (abortDefrost s).ldm := by
  unfold abortDefrost
  split
  case h_1 => simpa using h
  case h_2 =>
    simp only [answer_ldm]
    exact endHeat_sound _ h
  all_goals exact h

theorem enterOff_sound {s : State} (h : LdmSound s.ldm) : LdmSound (enterOff s).ldm := by
  rw [enterOff_ldm]
  exact releaseLoad_sound _ (releaseLoad_sound _ (releaseLoad_sound _ h))

theorem endHarvestHeat_sound {s : State} (h : LdmSound s.ldm) :
    LdmSound (endHarvestHeat s).ldm := by
  rw [endHarvestHeat_ldm]
  exact releaseLoad_sound .moldHtr h

/-- The test for the harvest point leaves LDM as it is. -/
theorem takeIm_sound {s : State} (status : ChannelStatus) (value : Option Temp)
    (h : LdmSound s.ldm) : LdmSound (takeIm s status value).ldm := by
  unfold takeIm imInHarvest
  repeat' split
  case h_1 => simpa using h
  all_goals first
    | exact h
    | exact endHarvestHeat_sound h

theorem takeHarvestSecond_sound {s : State} (due : Nat) (h : LdmSound s.ldm) :
    LdmSound (takeHarvestSecond s due).ldm := by
  unfold takeHarvestSecond
  dsimp only
  repeat' split
  all_goals first
    | exact h
    | exact endHarvestHeat_sound h

theorem completeSweep_sound {s : State} (h : LdmSound s.ldm) : LdmSound (completeSweep s).ldm := by
  have hrelease := releaseLoad_sound .rakeMtr h
  unfold completeSweep
  dsimp only
  split
  · refine enterOff_sound ?_
    simpa using hrelease
  · simpa using hrelease

theorem takeRakeHome_sound {s : State} (asserted : Bool) (h : LdmSound s.ldm) :
    LdmSound (takeRakeHome s asserted).ldm := by
  unfold takeRakeHome
  repeat' split
  case h_1.isTrue => simpa [completePark] using releaseLoad_sound .rakeMtr h
  all_goals first
    | exact h
    | exact completeSweep_sound h

theorem failRake_sound {s : State} (failed : RakeState) (h : LdmSound s.ldm) :
    LdmSound (failRake s failed).ldm := by
  have hrelease := releaseLoad_sound .rakeMtr h
  unfold failRake
  dsimp only
  repeat' split
  · refine enterOff_sound ?_
    simpa using hrelease
  all_goals simpa using hrelease

theorem takeRakeSecond_sound {s : State} (due : Nat) (h : LdmSound s.ldm) :
    LdmSound (takeRakeSecond s due).ldm := by
  unfold takeRakeSecond
  dsimp only
  repeat' split
  all_goals first
    | exact h
    | exact failRake_sound _ h

theorem disableIce_sound {s : State} (h : LdmSound s.ldm) : LdmSound (disableIce s).ldm := by
  have hwithdraw : LdmSound (withdrawIfWaiting s).ldm := by simpa using h
  unfold disableIce
  split
  case h_3 => exact enterOff_sound h
  case h_4 => exact enterOff_sound hwithdraw
  case h_5 => exact enterOff_sound hwithdraw
  all_goals first
    | exact h
    | exact enterOff_sound h

/-! ### Parameters and resets -/

theorem changeTraceDuty_sound {s : State} (x : Load) (old new : Nat) (h : LdmSound s.ldm) :
    LdmSound (changeTraceDuty s x old new).ldm := by
  unfold changeTraceDuty
  repeat' split
  all_goals first
    | exact releaseLoad_sound _ h
    | exact h

theorem storeParam_loads {s : State} (p : Param) (v : Int) (h : LdmSound s.ldm) :
    LdmSound (storeParam s p v).ldm := by
  cases p
  case budget => exact storeBudget_sound _ h
  case rated x => exact storeRated_sound x _ h
  case defDuty => exact changeDuty_sound _ _ h
  case ductDuty => exact changeTraceDuty_sound (s := s.withDsc _) _ _ _ h
  case tubeDuty =>
    simp only [storeParam, storeTubeDuty]
    split
    · exact h
    · exact changeTraceDuty_sound (s := s.withImc _) _ _ _ h
  all_goals simpa [storeParam, State.withChannel] using h

theorem setParam_loads {s : State} (id : Byte) (value : BitVec 32) (h : LdmSound s.ldm) :
    LdmSound (setParam s id value).ldm := by
  unfold setParam
  split
  · exact h
  · exact storeParam_loads _ _ h

theorem startUp_loads {s : State} (h : LdmSound s.ldm) : LdmSound (startUp s).ldm := by
  unfold startUp
  simp only [takeEvent_frame]
  refine requestLoad_sound _ _ ?_
  simp only [startTimers, State.withRpu_ldm, State.withLdm_ldm]
  exact h.of_eq rfl rfl rfl

theorem restart_loads (s : State) (causes : ResetCauses) : LdmSound (restart s causes).ldm := by
  refine restart_keeps (P := fun u => LdmSound u.ldm) (fun u _ => ⟨nofun, fun _ x => ?_⟩)
    (fun _ => startUp_loads) s causes
  cases x <;> exact .inr rfl

/-! ### Every command -/

/-- The commands of LDM, those that may release a load, and those that write every block. -/
def writesLdm : Instr → Bool
  | .loadRequest _ _ | .loadRelease _ | .dutyChange _ _ | .dutyPeriodTimer _ | .railBelowEntry _
  | .railAboveExit _ | .railFallsBack _ | .exitTimerExpiry => true
  | .defrostAbort | .heatSecond | .evAtDfc _ _ | .iceDisable | .imAtImc _ _ | .harvestSecond
  | .rakeHomeAtImc _ | .rakeSecond => true
  | c => writesAnyBlock c

theorem componentOnly_ldm : ComponentOnly State.ldm := ⟨fun _ _ => rfl, fun _ _ => rfl⟩

/-- Every other command leaves LDM as it is. -/
theorem exec_ldm {c : Instr} {s t : State} (hc : writesLdm c = false) (h : exec c s = .next t) :
    t.ldm = s.ldm := by
  have hget := componentOnly_ldm
  cases c
  all_goals first | cases hc; done | dsimp only [exec] at h
  case switchPinChange =>
    cases h
    simp
  case settleWindowExpiry =>
    refine perform_expiry_component hget h fun _ _ => ?_
    dsimp only
    split <;> simp
  case creditInterval =>
    refine perform_expiry_component hget h fun _ _ => ?_
    split <;> simp
  case imcStateAtDfc | tHandBack | binBeamAtImc | preemptionCountAtImc | fillEndAtImc =>
    refine perform_component hget h fun _ => ?_
    split <;> simp
  all_goals first
    | exact perform_expiry_component hget h fun _ _ => by simp
    | exact perform_component hget h fun _ => by simp

theorem readsBlocksOnly_loads : ReadsBlocksOnly fun s => LdmSound s.ldm :=
  ⟨fun _ _ h => h, fun _ _ h => h, fun _ _ h => h, fun _ _ h => h⟩

/-- The operations of LDM keep its table sound, wherever a command makes them. -/
theorem exec_keeps_loads (c : Instr) (s t : State) (hs : LdmSound s.ldm) (h : exec c s = .next t) :
    LdmSound t.ldm := by
  have hP := readsBlocksOnly_loads
  cases hc : writesLdm c with
  | false => rwa [exec_ldm hc h]
  | true =>
    cases c
    all_goals first | cases hc; done | skip
    case powerOn | supplyLow | resetLine | resetnRise | supplyRiseAboveResetLevel =>
      exact exec_reset_keeps (P := fun u => LdmSound u.ldm) hP restart_loads rfl hs h
    all_goals dsimp only [exec] at h
    case setParam id value => exact perform_keeps h hP hs fun _ hu => setParam_loads id value hu
    case replyEnd =>
      exact perform_expiry_keeps h hP hs fun _ _ hu =>
        endReply_keeps (P := fun u => LdmSound u.ldm) restart_loads (fun _ _ hu => hu) hu
    case loadRequest x duty => exact perform_keeps h hP hs fun _ hu => requestLoad_sound x duty hu
    case loadRelease x => exact perform_keeps h hP hs fun _ hu => releaseLoad_sound x hu
    case dutyChange x duty => exact perform_keeps h hP hs fun _ hu => changeDuty_sound x duty hu
    case dutyPeriodTimer x =>
      exact perform_expiry_keeps h hP hs fun _ _ hu => takeDutyPeriod_sound x hu
    case railBelowEntry =>
      exact perform_keeps h hP (hs.of_eq rfl rfl rfl) fun _ hu => railBelow_sound hu
    case railAboveExit =>
      exact perform_keeps h hP (hs.of_eq rfl rfl rfl) fun _ hu => railAbove_sound hu
    case railFallsBack =>
      exact perform_keeps h hP (hs.of_eq rfl rfl rfl) fun _ hu => railBack_sound hu
    case exitTimerExpiry => exact perform_expiry_keeps h hP hs fun _ _ hu => sagExit_sound hu
    case defrostAbort => exact perform_keeps h hP hs fun _ hu => abortDefrost_sound hu
    case heatSecond =>
      refine perform_expiry_keeps h hP hs fun due u hu => ?_
      split
      · exact takeHeatSecond_sound due hu
      · exact hu
    case evAtDfc status value =>
      exact perform_keeps h hP hs fun _ hu => takeEv_sound status value hu
    case iceDisable => exact perform_keeps h hP hs fun _ hu => disableIce_sound hu
    case imAtImc status value =>
      exact perform_keeps h hP hs fun _ hu => takeIm_sound status value hu
    case harvestSecond =>
      refine perform_expiry_keeps h hP hs fun due u hu => ?_
      split
      · exact takeHarvestSecond_sound due hu
      · exact hu
    case rakeHomeAtImc asserted =>
      exact perform_keeps h hP hs fun _ hu => takeRakeHome_sound asserted hu
    case rakeSecond => exact perform_expiry_keeps h hP hs fun due _ hu => takeRakeSecond_sound due hu

/-- Settles O5: the budget is kept by every operation on the load table. -/
theorem stepKeepsLoadsWithinBudget : Obligations.StepKeepsLoadsWithinBudget :=
  fun _ _ hs h => (loadsWithinBudget_iff _).2 <|
    step_keeps readsBlocksOnly_loads exec_keeps_loads ((loadsWithinBudget_iff _).1 hs) h

end Sys2Proof.Machine
end

section
/-! WPU: the arbiter, claims, sag, and the end of a settle window (R21 to R27, R30 to R32). -/

namespace Sys2Proof.Machine

open Sys2Proof Sys2Proof.Safety

/-! ### Hand-overs of WPU -/

theorem handGranted_eq (s : State) (who : Claimant) (target : Option Nat) :
    handGranted s who target =
      { s with handovers := s.handovers ++ [grantedHandover who target] } := by
  cases who <;> rfl

theorem handSettled_eq (s : State) (who : Claimant) (cause : CloseCause) (total : Nat) :
    handSettled s who cause total =
      { s with handovers := s.handovers ++ [settledHandover who cause total] } := by
  cases who <;> rfl

/-! ### The arbiter (R22, R23) -/

theorem arbitrate_of_choice {s : State} {who : Claimant} (hp : s.wpu.path = .idle)
    (hs : s.wpu.sag = false) (hc : arbiterChoice s.now s.wpu = some who) :
    arbitrate s = grantPath s who := by
  rw [arbitrate, if_pos ⟨hp, hs⟩, hc]

theorem arbitrate_of_none {s : State} (hc : arbiterChoice s.now s.wpu = none) :
    arbitrate s = s := by
  rw [arbitrate, hc]
  split <;> rfl

theorem arbitrate_of_not_free {s : State} (h : ¬(s.wpu.path = .idle ∧ s.wpu.sag = false)) :
    arbitrate s = s := if_neg h

theorem arbiterChoice_of_ice {now : Nat} {w : Wpu} (hi : w.ice.state = .waiting)
    (hd : w.disp.state ≠ .waiting) : arbiterChoice now w = some .ice := by
  cases hs : w.disp.state <;> simp_all [arbiterChoice]

theorem arbiterChoice_of_disp {now : Nat} {w : Wpu} (hd : w.disp.state = .waiting)
    (hi : w.ice.state ≠ .waiting) : arbiterChoice now w = some .disp := by
  cases hs : w.ice.state <;> simp_all [arbiterChoice]

/-- R23: both wait; ICE goes first when it has waited 120 s. -/
theorem arbiterChoice_of_both {now since : Nat} {w : Wpu} (hi : w.ice.state = .waiting)
    (hd : w.disp.state = .waiting) (hs : w.ice.since = some since) :
    arbiterChoice now w = if 120000 ≤ now - since then some .ice else some .disp := by
  simp [arbiterChoice, hi, hd, hs]

theorem arbiterChoice_of_none {now : Nat} {w : Wpu} (hi : w.ice.state ≠ .waiting)
    (hd : w.disp.state ≠ .waiting) : arbiterChoice now w = none := by
  cases hs : w.ice.state <;> cases ht : w.disp.state <;> simp_all [arbiterChoice]

theorem grantPath_eq (s : State) (who : Claimant) : grantPath s who =
    (let c := getClaim s.wpu who
    let g := c.target.map (· - c.charged)
    { s with
      handovers := s.handovers ++ [grantedHandover who c.target],
      wpu := { setClaim s.wpu who { c with state := .granted } with
        path := .opened, noFlowTimer := some (s.now + 5000),
        grant := some
          { holder := who, target := g, charged := 0, time := s.now, cause := none,
            closePoint := g.map fun g => g - min (getLearning s.wpu who).anticipation (g / 2) } } }) := by
  cases who <;> simp [grantPath, handGranted_eq, setClaim, State.withWpu] <;> rfl

/-- Settles O31: the arbiter's choice, and the grant it makes. -/
theorem arbiterDecides : Obligations.ArbiterDecides := by
  intro s
  dsimp only
  refine ⟨fun h => ?_, fun hp hs => ⟨fun hi hd => ?_, fun hd hi => ?_, fun since hi hd hsince hle => ?_,
    fun since hi hd hsince hlt => ?_⟩⟩
  · rcases h with hp | hs | ⟨hi, hd⟩
    · exact arbitrate_of_not_free fun hn => hp hn.1
    · exact arbitrate_of_not_free fun hn => by simp [hs] at hn
    · exact arbitrate_of_none (arbiterChoice_of_none hi hd)
  · rw [arbitrate_of_choice hp hs (arbiterChoice_of_ice hi hd), grantPath_eq]
  · rw [arbitrate_of_choice hp hs (arbiterChoice_of_disp hd hi), grantPath_eq]
  · have hc := arbiterChoice_of_both (now := s.now) hi hd hsince
    rw [if_pos hle] at hc
    rw [arbitrate_of_choice hp hs hc, grantPath_eq]
  · have hc := arbiterChoice_of_both (now := s.now) hi hd hsince
    rw [if_neg (Nat.not_le.2 hlt)] at hc
    rw [arbitrate_of_choice hp hs hc, grantPath_eq]

/-! ### Claims (R21, R24, R25, R32) -/

section
variable {s : State} {who : Claimant}

theorem makeClaim_of_standing (target : Option Nat) (charged preemptions : Nat)
    (h : (getClaim s.wpu who).state ≠ .none) : makeClaim s who target charged preemptions = s :=
  if_neg h

/-- WPU with the claim made. -/
def claimedWpu (s : State) (who : Claimant) (target : Option Nat) (charged preemptions : Nat) : Wpu :=
  setClaim s.wpu who
    { state := .waiting, since := some s.now, target := target, charged := charged,
      preemptions := preemptions }

theorem makeClaim_eq (target : Option Nat) (charged preemptions : Nat)
    (h : (getClaim s.wpu who).state = .none) :
    makeClaim s who target charged preemptions =
      (let u := s.withWpu (claimedWpu s who target charged preemptions)
      if who = .disp ∧ preemptible u.wpu = true then preemptFill u else arbitrate u) :=
  if_pos h

theorem preemptible_iff (w : Wpu) : preemptible w = true ↔
    w.path = .opened ∧ w.grant.map (·.holder) = some .ice ∧ w.ice.preemptions < 2 := by
  simp [preemptible, and_assoc]

theorem preemptFill_eq {g : Grant} (hp : s.wpu.path = .opened) (hg : s.wpu.grant = some g)
    (hh : g.holder = .ice) : preemptFill s =
      { s with
        handovers := s.handovers ++
          [.preemptionCountAtImc (s.wpu.ice.preemptions + 1), .closedAtImc .preempted],
        wpu := { s.wpu with
          path := .settling, grant := some { g with cause := some .preempted },
          noFlowTimer := none, settleTimer := some (s.now + 1000),
          ice := { s.wpu.ice with
            state := .waiting, since := some s.now, preemptions := s.wpu.ice.preemptions + 1 } } } := by
  refine Eq.trans (congrArg iceWaitsAgain (closeCoil_of_open (g := g) .preempted hp hg)) ?_
  simp [iceWaitsAgain, closedHandover, State.withWpu, hh]

theorem withdrawClaim_of_waiting (h : (getClaim s.wpu who).state = .waiting) :
    withdrawClaim s who =
      { s with
        handovers := s.handovers ++ [if who = .ice then .withdrawnAtImc else .withdrawnAtDsc],
        wpu := setClaim s.wpu who .held } := by
  rw [withdrawClaim, if_pos h]
  cases who <;> rfl

theorem withdrawClaim_of_not_waiting (h : (getClaim s.wpu who).state ≠ .waiting) :
    withdrawClaim s who = s := if_neg h

theorem releaseClaim_of_granted {g : Grant} (hg : s.wpu.grant = some g) (hh : g.holder = who)
    (hc : (getClaim s.wpu who).state = .granted) : releaseClaim s who = closeCoil s .released :=
  if_pos ⟨hc, by rw [hg, Option.map_some, hh]⟩

theorem releaseClaim_of_not (h : s.wpu.path ≠ .opened ∨ (getClaim s.wpu who).state ≠ .granted) :
    releaseClaim s who = s := by
  unfold releaseClaim
  split
  · rename_i hc
    exact closeCoil_of_not_open _ (h.resolve_right fun hn => hn hc.1)
  · rfl

end

/-- Settles O32, by the claim's state and by what makes a fill preemptible. -/
theorem claimsAreMade : Obligations.ClaimsAreMade := by
  intro s who target charged preemptions hrun
  refine ⟨fun h => ?_, fun h => ⟨fun g hwho hp hg hh hn => ?_, fun hnot => ?_⟩⟩
  all_goals
    change execClaimMade who target charged preemptions s = _
    refine perform_next hrun ?_
  · exact makeClaim_of_standing _ _ _ h
  · subst hwho
    have hpre : preemptible (claimedWpu s .disp target charged preemptions) = true :=
      (preemptible_iff _).2 ⟨hp, by simp [claimedWpu, setClaim, hg, hh], hn⟩
    refine Eq.trans (makeClaim_eq _ _ _ h) ?_
    exact (if_pos ⟨rfl, hpre⟩).trans (preemptFill_eq (s := (s.taken _).withWpu _) hp hg hh)
  · have hpre : ¬(who = .disp ∧ preemptible (claimedWpu s who target charged preemptions) = true) := by
      rintro ⟨rfl, hpre⟩
      obtain ⟨hp, hg, hn⟩ := (preemptible_iff _).1 hpre
      rcases hnot with hice | hp' | hg' | hn'
      · cases hice
      · exact hp' hp
      · exact hg' hg
      · exact absurd hn (Nat.not_lt.2 hn')
    exact Eq.trans (makeClaim_eq _ _ _ h) (if_neg hpre)

/-- Settles O33, by the claim's state and the path. -/
theorem claimsEndAndNoFlow : Obligations.ClaimsEndAndNoFlow := by
  intro s who hrun
  refine ⟨fun h => ?_, fun h => ?_, fun g hp hg => ⟨fun hh hc => ?_, fun due hdue => ?_⟩, fun h => ?_⟩
  · change execClaimWithdrawn who s = _
    exact perform_next hrun (withdrawClaim_of_waiting h)
  · change execClaimWithdrawn who s = _
    exact perform_next hrun (withdrawClaim_of_not_waiting h)
  · change execClaimReleased who s = _
    refine perform_next hrun (Eq.trans (releaseClaim_of_granted hg hh hc) ?_)
    exact hh ▸ closeCoil_of_open .released hp hg
  · change execNoFlowExpiry s = _
    exact perform_expiry hrun hdue (closeCoil_of_open .noFlow hp hg)
  · change execClaimReleased who s = _
    exact perform_next hrun (releaseClaim_of_not h)

theorem wpuSagEntry_of_open {s : State} {g : Grant} (hp : s.wpu.path = .opened)
    (hg : s.wpu.grant = some g) : wpuSagEntry s =
      { s with
        handovers := s.handovers ++ [closedHandover g.holder .sag],
        wpu := { s.wpu with
          sag := true, path := .settling, grant := some { g with cause := some .sag },
          noFlowTimer := none, settleTimer := some (s.now + 1000),
          ice := if g.holder = .ice then { s.wpu.ice with state := .waiting, since := some s.now }
            else s.wpu.ice } } := by
  have hclose := closeCoil_of_open (s := s.withWpu { s.wpu with sag := true }) .sag hp hg
  unfold wpuSagEntry
  dsimp only
  split
  · rename_i g' _ hg'
    obtain rfl : g = g' := Option.some.inj (hg.symm.trans hg')
    rw [hclose]
    cases g.holder <;> rfl
  · rename_i hn
    exact absurd hg (hn g hp)

/-- Settles O36: the close of an open coil, and the indication. -/
theorem sagAtWaterPath : Obligations.SagAtWaterPath := by
  intro s hrun
  refine ⟨fun g hp hg => ?_, fun hp => ?_, ?_⟩
  · change execWpuSagEntry s = _
    refine perform_next hrun ?_
    exact wpuSagEntry_of_open hp hg
  · change execWpuSagEntry s = _
    refine perform_next hrun ?_
    unfold wpuSagEntry
    dsimp only
    split
    · exact absurd ‹_› hp
    · rfl
  · change execWpuSagExit s = _
    exact perform_next hrun rfl

/-! ### The end of a settle window (R26, R31) -/

theorem learnOverrun_eq (l : PathLearning) (total target : Nat) :
    learnOverrun l total target =
      (let list := (if l.overruns.length < 4 then l.overruns else l.overruns.tail)
        ++ [max (-30) (min 30 ((total : Int) - target))]
      { overruns := list, anticipation := (max 0 (min 30 (list.sum.tdiv list.length))).toNat }) := by
  by_cases h : l.overruns.length < 4
  · simp [learnOverrun, anticipationOf, clampInt, h, Nat.not_le.2 h]
  · simp [learnOverrun, anticipationOf, clampInt, h, Nat.not_lt.1 h]

theorem pausedFillDone_iff (w : Wpu) (g : Grant) : pausedFillDone w g = true ↔
    g.holder = .ice ∧ (g.cause = some .preempted ∨ g.cause = some .sag) ∧ w.ice.state = .waiting ∧
      w.ice.target.getD 0 - w.ice.charged ≤ 5 := by
  simp [pausedFillDone, and_assoc]

/-- The grant record that ends, and what the end hands and learns, step by step (R26). -/
theorem endGrant_eq (s : State) (g : Grant) (cause : CloseCause) (hcause : g.cause = some cause) :
    endGrant s g =
      (let c := getClaim s.wpu g.holder
      let total := if c.state = .none then g.charged else c.charged
      let done := pausedFillDone s.wpu g
      let w := if done then { s.wpu with ice := .held } else s.wpu
      let w := match cause, c.target with
        | .closePoint, some target =>
          setLearning w g.holder (learnOverrun (getLearning w g.holder) total target)
        | _, _ => w
      let w := if claimEnds g then setClaim w g.holder .held else w
      arbitrate { s with
        handovers := s.handovers ++ (if done then [.fillEndAtImc total] else [])
          ++ [settledHandover g.holder cause total],
        wpu := { w with grant := none, path := .idle } }) := by
  unfold endGrant
  simp only [hcause, handSettled_eq]
  cases hd : pausedFillDone s.wpu g <;> cases he : claimEnds g <;>
    cases cause <;> cases ht : (getClaim s.wpu g.holder).target <;>
    simp [State.withWpu, State.handover, State.withHandovers]

theorem exec_settleWindowExpiry {s t : State} {g : Grant} {due : Nat} (hrun : s.running = true)
    (hdue : s.wpu.settleTimer = some due) (hg : s.wpu.grant = some g)
    (ht : endGrant { s.taken .settleWindowExpiry with
      now := max s.now due, wpu := { s.wpu with settleTimer := none } } g = t) :
    exec .settleWindowExpiry s = .next t := by
  change execSettleWindowExpiry s = _
  refine perform_expiry hrun hdue ?_
  dsimp only [State.withWpu, State.withNow, State.taken_wpu]
  split
  · rename_i g' hg'
    obtain rfl : g = g' := Option.some.inj (hg.symm.trans hg')
    exact ht
  · rename_i hnone
    cases hg.symm.trans hnone

/-- Settles O35, by the close cause and the holder. -/
theorem settleWindowEnds : Obligations.SettleWindowEnds := by
  intro s g cause due hrun hdue hg hcause
  dsimp only
  refine ⟨fun hh hc => ⟨fun hw hrem => ?_, fun hn => ?_⟩, fun hc => ?_, fun target hc ht => ?_⟩
  all_goals refine exec_settleWindowExpiry hrun hdue hg ((endGrant_eq _ g cause hcause).trans ?_)
  · have hdone : pausedFillDone { s.wpu with settleTimer := none } g = true :=
      (pausedFillDone_iff _ g).2 ⟨hh, by simpa [hcause] using hc, hw, hrem⟩
    have hends : claimEnds g = false := by rcases hc with rfl | rfl <;> simp [claimEnds, hcause, hh]
    rcases hc with rfl | rfl <;> simp [hdone, hends, hh, getClaim]
  · have hdone : pausedFillDone { s.wpu with settleTimer := none } g = false := by
      refine Bool.eq_false_iff.2 fun hd => ?_
      obtain ⟨-, -, hw, hrem⟩ := (pausedFillDone_iff _ g).1 hd
      exact hn.elim (· hw) (Nat.not_lt.2 hrem)
    have hends : claimEnds g = false := by rcases hc with rfl | rfl <;> simp [claimEnds, hcause, hh]
    rcases hc with rfl | rfl <;> simp [hdone, hends, hh, getClaim]
  · have hends : claimEnds g = true := by
      rcases hc with rfl | rfl | ⟨rfl, hh⟩ <;> simp [claimEnds, *]
    have hdone : pausedFillDone { s.wpu with settleTimer := none } g = false := by
      refine Bool.eq_false_iff.2 fun hd => ?_
      obtain ⟨hice, hpaused, -, -⟩ := (pausedFillDone_iff _ g).1 hd
      rcases hc with rfl | rfl | ⟨rfl, hh⟩ <;> simp_all
    simp only [hdone, hends, if_true, Bool.false_eq_true, if_false, List.append_nil]
    rcases hc with rfl | rfl | ⟨rfl, hh⟩ <;> cases g.holder <;> rfl
  · subst hc
    have hends : claimEnds g = true := by simp [claimEnds, hcause]
    have hdone : pausedFillDone { s.wpu with settleTimer := none } g = false := by
      simp [pausedFillDone, hcause]
    simp only [hdone, hends, if_true, Bool.false_eq_true, if_false, List.append_nil]
    generalize g.holder = holder at ht ⊢
    cases holder <;> simp only [getClaim, setClaim, getLearning, setLearning] at ht ⊢ <;>
      simp only [ht, learnOverrun_eq] <;> rfl

end Sys2Proof.Machine
end

section
/-! WPU: metering, the leak watch and the filter account (R28, R29, R33 to R38). -/

namespace Sys2Proof.Machine

open Sys2Proof Sys2Proof.Safety

/-! ### A millilitre (R28, R29, R33, R35) -/

theorem takePulse_of_lt {s : State} (h : s.wpu.residue + 1000 < s.wpu.meterK) :
    takePulse s = { s with wpu := { s.wpu with residue := s.wpu.residue + 1000 } } :=
  if_neg (Nat.not_le.2 h)

theorem takePulse_of_le {s : State} (h : s.wpu.meterK ≤ s.wpu.residue + 1000) :
    takePulse s = chargeMillilitre
      { s with wpu := { s.wpu with residue := s.wpu.residue + 1000 - s.wpu.meterK } } :=
  if_pos h

theorem chargeMillilitre_of_idle {s : State} (h : s.wpu.path = .idle) :
    chargeMillilitre s = countUsed (chargeUnclaimed s) := by
  unfold chargeMillilitre
  rw [h]

theorem chargeMillilitre_of_grant {s : State} {g : Grant} (h : s.wpu.path ≠ .idle)
    (hg : s.wpu.grant = some g) : chargeMillilitre s = countUsed (chargeHolder s g) := by
  unfold chargeMillilitre
  rw [hg]
  cases hp : s.wpu.path <;> first | rfl | exact absurd hp h

/-- R33, R34: an unclaimed millilitre, with the newest bin `bin`. -/
theorem chargeUnclaimed_eq {s : State} {bin : Nat} {bins : List Nat}
    (h : s.wpu.leakBins = bin :: bins) : chargeUnclaimed s =
      (let sum := min 65535 (s.wpu.leakSum + 1)
      { s with
        handovers := s.handovers ++
          (if s.wpu.leakLim ≤ sum ∧ s.wpu.leakLatch = false then [.eventTaken (.leak sum)] else []),
        wpu := { s.wpu with
          unclaimed := min 65535 (s.wpu.unclaimed + 1), leakBins := min 65535 (bin + 1) :: bins,
          leakSum := sum, leakLatch := s.wpu.leakLatch || decide (s.wpu.leakLim ≤ sum) } }) := by
  unfold chargeUnclaimed addLeak
  simp only [h, satAdd, Config.max16_eq]
  by_cases hle : s.wpu.leakLim ≤ min 65535 (s.wpu.leakSum + 1) <;>
    cases hl : s.wpu.leakLatch <;>
    simp [hle, State.withWpu, State.raise, State.handover, State.withHandovers]

/-- Counting into filter used reads nothing of the grant, the leak watch or the meter. -/
theorem usedHandovers_congr {v w : Wpu} (hused : v.used = w.used) (hsteps : v.saveSteps = w.saveSteps)
    (hstatus : v.status = w.status) (hcap : v.capacity = w.capacity) (hage : v.age = w.age)
    (hlim : v.ageLim = w.ageLim) : usedHandovers v = usedHandovers w := by
  simp only [usedHandovers, hused, hsteps, hstatus, hcap, hage, hlim]

/-- Charging a claim leaves what filter used is counted with. -/
theorem usedHandovers_chargedClaim (w : Wpu) (who : Claimant) :
    usedHandovers (chargedClaim w who) = usedHandovers w := by
  rw [chargedClaim_eq]
  exact usedHandovers_congr rfl rfl rfl rfl rfl rfl

theorem takePulse_of_grant {s : State} {g : Grant} (hle : s.wpu.meterK ≤ s.wpu.residue + 1000)
    (hp : s.wpu.path ≠ .idle) (hg : s.wpu.grant = some g) : takePulse s =
      countUsed (chargeHolder
        { s with wpu := { s.wpu with residue := s.wpu.residue + 1000 - s.wpu.meterK } } g) :=
  Eq.trans (takePulse_of_le hle) (chargeMillilitre_of_grant hp hg)

theorem countUsed_of_handovers {u : State} {w : Wpu} (h : usedHandovers u.wpu = usedHandovers w) :
    countUsed u =
      { u with handovers := u.handovers ++ usedHandovers w, wpu := countedUsed u.wpu } := by
  rw [countUsed_eq, h]

/-- A millilitre charged to a claim and a grant record, whatever becomes of the grant and the path. -/
theorem usedHandovers_millilitre (w : Wpu) (who : Claimant) (grant : Option Grant) (path : PathState)
    (noFlow settle : Timer) :
    usedHandovers { chargedClaim { w with residue := w.residue + 1000 - w.meterK } who with
      grant := grant, path := path, noFlowTimer := noFlow, settleTimer := settle } =
    usedHandovers w :=
  (usedHandovers_congr rfl rfl rfl rfl rfl rfl).trans
    ((usedHandovers_chargedClaim { w with residue := w.residue + 1000 - w.meterK } who).trans
      (usedHandovers_congr rfl rfl rfl rfl rfl rfl))

/-- Settles O34, by the path state and, in OPEN, the close point. -/
theorem millilitresAreCharged : Obligations.MillilitresAreCharged := by
  refine ⟨fun s hrun => ⟨fun hlt => ?_, fun bin bins hle hp hbins => ?_⟩,
    fun s g hrun hle hg => ⟨fun hp => ?_, fun hp hpoint => ?_, fun p hp hc hpoint => ?_⟩⟩
  all_goals
    rw [exec_meterPulse hrun]
    refine congrArg Host.Outcome.next ?_
  · exact takePulse_of_lt hlt
  · refine Eq.trans (takePulse_of_le hle) (Eq.trans (chargeMillilitre_of_idle hp) ?_)
    exact Eq.trans (congrArg countUsed (chargeUnclaimed_eq hbins)) (countUsed_eq _)
  · refine Eq.trans (takePulse_of_grant hle (by simp [hp]) hg) ?_
    refine Eq.trans (congrArg countUsed (chargeHolder_of_not_open g (by simp [hp]))) ?_
    refine Eq.trans (countUsed_of_handovers (usedHandovers_millilitre s.wpu g.holder _ _ _ _)) ?_
    simp only [List.append_nil]
    rfl
  · refine Eq.trans (takePulse_of_grant hle (by simp [hp]) hg) ?_
    refine Eq.trans (congrArg countUsed (chargeHolder_of_open hp hpoint)) ?_
    refine Eq.trans (countUsed_of_handovers (usedHandovers_millilitre s.wpu g.holder _ _ _ _)) ?_
    simp only [List.append_nil]
    rfl
  · refine Eq.trans (takePulse_of_grant hle (by simp [hp]) hg) ?_
    refine Eq.trans (congrArg countUsed (chargeHolder_of_closePoint hp hc hpoint)) ?_
    refine Eq.trans (congrArg countUsed (closeCoil_of_open (g := chargedGrant g) .closePoint ?_ rfl)) ?_
    · exact (millilitreCharged_path _ g).trans hp
    refine Eq.trans (countUsed_of_handovers (usedHandovers_millilitre s.wpu g.holder _ _ _ _)) ?_
    rfl

end Sys2Proof.Machine
end

section
/-! WPU: the leak minute, the day second and the filter account (R33, R34, R36 to R38). -/

namespace Sys2Proof.Machine

open Sys2Proof Sys2Proof.Safety

/-- R33: the oldest bin leaves, and a sum of 0 clears the latch. -/
theorem takeLeakMinute_eq {s : State} {bins : List Nat} {oldest : Nat} (due : Nat)
    (h : s.wpu.leakBins = bins ++ [oldest]) : takeLeakMinute s due =
      { s with wpu := { s.wpu with
        leakBins := 0 :: bins, leakSum := s.wpu.leakSum - oldest,
        leakLatch := s.wpu.leakLatch && decide (oldest < s.wpu.leakSum),
        leakTimer := some (due + 60000) } } := by
  have hlast : s.wpu.leakBins.getLastD 0 = oldest := by simp [h]
  have hlatch : (if s.wpu.leakSum - oldest = 0 then false else s.wpu.leakLatch) =
      (s.wpu.leakLatch && decide (oldest < s.wpu.leakSum)) := by
    by_cases hlt : oldest < s.wpu.leakSum
    · rw [if_neg (Nat.sub_ne_zero_of_lt hlt)]
      simp [hlt]
    · rw [if_pos (Nat.sub_eq_zero_of_le (Nat.not_lt.1 hlt))]
      simp [hlt]
  unfold takeLeakMinute
  dsimp only
  rw [hlast, hlatch, h, List.dropLast_concat]
  rfl

theorem takeDaySecond_of_lt {s : State} (due : Nat) (h : s.wpu.daySeconds < 86399) :
    takeDaySecond s due =
      { s with wpu := { s.wpu with
        daySeconds := s.wpu.daySeconds + 1, dayTimer := some (due + 1000) } } :=
  if_neg (Nat.not_le.2 (Nat.add_lt_add_right h 1))

/-- R36: a full day. -/
theorem takeDaySecond_of_full {s : State} (due : Nat) (h : s.wpu.daySeconds = 86399) :
    takeDaySecond s due =
      (let age := min 65535 (s.wpu.age + 1)
      { s with
        handovers := s.handovers ++ [.saveRequest]
          ++ filterEvent s.wpu.status s.wpu.used s.wpu.capacity age s.wpu.ageLim,
        wpu := { s.wpu with
          daySeconds := 0, age := age, dayTimer := some (due + 1000),
          status := filterStatusOf s.wpu.used s.wpu.capacity age s.wpu.ageLim } }) := by
  have hfull : 86400 ≤ s.wpu.daySeconds + 1 := by omega
  exact Eq.trans (if_pos hfull) (reevaluateFilter_eq _)

theorem filterStatusOf_expired_iff (used capacity age ageLim : Nat) :
    filterStatusOf used capacity age ageLim = .expired ↔ capacity ≤ used ∨ ageLim ≤ age := by
  unfold filterStatusOf
  split
  · rename_i h
    exact iff_of_true rfl h
  · rename_i h
    split <;> exact iff_of_false nofun h

theorem filterStatusOf_ok_iff {used capacity age ageLim : Nat} (hlim : 14 ≤ ageLim) :
    filterStatusOf used capacity age ageLim = .ok ↔
      used < capacity ∧ used * 10 < capacity * 9 ∧ age + 14 < ageLim := by
  unfold filterStatusOf
  split
  · rename_i h
    exact iff_of_false nofun (by omega)
  · split
    · rename_i h
      exact iff_of_false nofun (by omega)
    · exact iff_of_true rfl (by omega)

/-- R38: a new cartridge, with a capacity in its range, has the status OK. -/
theorem filterReset_eq {s : State} (capacity : BitVec 24) (hlim : 30 ≤ s.wpu.ageLim) :
    filterReset s capacity =
      (let n := max 100000 (min 2000000 capacity.toNat)
      answer
        { s with
          handovers := s.handovers
            ++ (if s.wpu.status = .ok then [] else [.eventTaken (.filterStatus .ok 0 0)])
            ++ [.saveRequest],
          wpu := { s.wpu with
            capacity := n, used := 0, age := 0, daySeconds := 0, saveSteps := 0, status := .ok } }
        0x22 (if n = capacity.toNat then .ok else .clamped)
        [BitVec.ofNat 8 n, BitVec.ofNat 8 (n / 256), BitVec.ofNat 8 (n / 256 / 256)]) := by
  have hok : filterStatusOf 0 (max 100000 (min 2000000 capacity.toNat)) 0 s.wpu.ageLim = .ok :=
    (filterStatusOf_ok_iff (by omega)).2 (by omega)
  have hevent : filterEvent s.wpu.status 0 (max 100000 (min 2000000 capacity.toNat)) 0 s.wpu.ageLim =
      if s.wpu.status = .ok then [] else [.eventTaken (.filterStatus .ok 0 0)] := by
    simp only [filterEvent, hok]
    exact if_congr eq_comm rfl rfl
  simp only [filterReset, reevaluateFilter_eq, Config.capacityMin_eq, Config.capacityMax_eq,
    State.withWpu_wpu, hok, hevent]
  rfl

/-- Settles O37: each timer's effect, and the exact products of the status. -/
theorem leakWatchAndFilterAccount : Obligations.LeakWatchAndFilterAccount := by
  refine ⟨fun s due hrun => ⟨fun bins oldest hdue hbins => ?_, ?_, fun hdue hday => ?_,
    fun hdue hday => ?_⟩, fun used capacity age ageLim hlim =>
      ⟨filterStatusOf_expired_iff used capacity age ageLim, filterStatusOf_ok_iff hlim⟩,
    fun s capacity hrun hlim => ?_⟩
  · change execLeakMinute s = _
    exact perform_expiry hrun hdue (takeLeakMinute_eq due hbins)
  · change execLeakLatchClear s = _
    exact perform_next hrun rfl
  · change execDaySecond s = _
    exact perform_expiry hrun hdue (takeDaySecond_of_lt due hday)
  · change execDaySecond s = _
    exact perform_expiry hrun hdue (takeDaySecond_of_full due hday)
  · change execFilterReset capacity s = _
    exact perform_next hrun (filterReset_eq capacity hlim)

end Sys2Proof.Machine
end

section
/-! FEST: the accumulation minute, and what a defrost leaves (R42 to R52). -/

namespace Sys2Proof.Machine

open Sys2Proof Sys2Proof.Safety

/-- R47. -/
theorem minuteFrozen_iff (d : DefrostState) :
    minuteFrozen d = true ↔ d = .heat ∨ d = .drip ∨ d = .recover := by
  cases d <;> simp [minuteFrozen]

theorem ambientBand_of_not_ok {am : ChannelRec} (h : am.status ≠ .ok) : ambientBand am = .notOk := by
  unfold ambientBand
  split
  · rename_i hs _
    exact absurd hs h
  · rfl

/-- TABLE 3-3. -/
theorem ambientBand_of_ok {am : ChannelRec} {v : Temp} (h : am.status = .ok) (hv : am.value = some v) :
    ambientBand am = if v < 240 then .low else if v < 320 then .mid else .high := by
  rw [ambientBand, h, hv]

/-- R50, the backstop first. -/
theorem festOffer_of_backstop {x : Fest} (f : Nat) {e : Nat} (h : x.backstop ≤ e) :
    festOffer x f e = some .backstop := if_pos h

theorem festOffer_of_threshold {x : Fest} {f e : Nat} (h : e < x.backstop) (hf : x.t ≤ f)
    (he : x.minGap ≤ e) : festOffer x f e = some .threshold := by
  rw [festOffer, if_neg (Nat.not_le.2 h), if_pos ⟨hf, he⟩]

theorem festOffer_of_none {x : Fest} {f e : Nat} (h : e < x.backstop) (hn : f < x.t ∨ e < x.minGap) :
    festOffer x f e = none := by
  rw [festOffer, if_neg (Nat.not_le.2 h), if_neg fun hc => ?_]
  exact hn.elim (Nat.not_lt.2 hc.1) (Nat.not_lt.2 hc.2)

theorem handRequest_eq (s : State) (offer : Option FestReason) (f : Nat) :
    handRequest s offer f = { s with
      handovers := s.handovers ++ (match offer with
        | some reason => [.defrostRequest reason f]
        | none => []) } := by
  cases offer with
  | some => rfl
  | none => simp [handRequest]

/-- R43: the accumulation minute, whole. -/
theorem takeMinute_eq (s : State) (due : Nat) : takeMinute s due =
    (let m := minuteRecord s
    let f := min 16777215 (s.fest.f + m.deltaF)
    { s with
      scan := { s.scan with fzSeconds := 0, ffSeconds := 0, cmpSeconds := 0 },
      fest := { s.fest with
        f := f, e := min 65535 (s.fest.e + 1), fillWater := 0, last := some m,
        minuteTimer := some (due + 60000) },
      handovers := s.handovers ++ (match m.offer with
        | some reason => [.defrostRequest reason f]
        | none => []) }) := by
  rw [takeMinute, handRequest_eq]
  rfl

/-- Settles O38: the minute record tells what the minute takes and does. -/
theorem accumulationMinuteAddsFrost : Obligations.AccumulationMinuteAddsFrost := by
  intro s due hrun hdue
  have hexec : exec .accumulationMinute s = .next
      (takeMinute ((s.taken .accumulationMinute).withNow (max s.now due)) due) := by
    change execAccumulationMinute s = _
    exact perform_expiry hrun hdue rfl
  rw [takeMinute_eq] at hexec
  refine ⟨_, minuteRecord s, hexec, rfl, rfl, rfl, rfl, rfl, rfl, rfl, rfl, minuteFrozen_iff _,
    fun hfrozen => ?_, fun hfrozen => ?_, fun hb => festOffer_of_backstop _ hb,
    fun hb hf he => festOffer_of_threshold hb hf he, fun hb hn => festOffer_of_none hb hn⟩
  · have hm : minuteFrozen s.dfc.state = true := hfrozen
    simp [minuteRecord, hm]
  · have hm : minuteFrozen s.dfc.state = false := hfrozen
    refine ⟨ambientBand (s.channel .am), bandWeight s.fest (ambientBand (s.channel .am)),
      by simp [minuteRecord, hm], by simp [minuteRecord, hm],
      by simp [minuteRecord, hm, deltaFrost], fun hbad => ?_, fun v hok hv => ⟨fun hlow => ?_,
        fun hlo hhi => ?_, fun hhigh => ?_⟩⟩
    · simp [ambientBand_of_not_ok hbad, bandWeight]
    all_goals rw [ambientBand_of_ok hok hv]
    · simp [hlow, bandWeight]
    · rw [if_neg (Int.not_lt.2 hlo), if_pos (show v < 320 from Int.lt_add_one_of_le hhi)]
      exact ⟨rfl, rfl⟩
    · rw [if_neg (Int.not_lt.2 ((by decide : (240 : Int) ≤ 320).trans hhigh)),
        if_neg (Int.not_lt.2 hhigh)]
      exact ⟨rfl, rfl⟩

/-- TABLE 3-4. -/
theorem adaptedT_eq {t heatTgt on newT : Nat} {cause : HeatEnd}
    (h : (cause = .temp ∧ on < heatTgt * 3 / 4 ∧ newT = max 40000 (min 600000 (t + t / 8))) ∨
      (cause = .temp ∧ heatTgt * 5 / 4 < on ∧ newT = max 40000 (min 600000 (t - t / 8))) ∨
      (cause = .temp ∧ heatTgt * 3 / 4 ≤ on ∧ on ≤ heatTgt * 5 / 4 ∧ newT = t) ∨
      (cause = .maxTime ∧ newT = max 40000 (min 600000 (t - t / 4))) ∨
      ((cause = .fallbackTime ∨ cause = .aborted ∨ cause = .starved) ∧ newT = t)) :
    adaptedT t heatTgt cause on = newT := by
  rcases h with ⟨rfl, hlight, rfl⟩ | ⟨rfl, hheavy, rfl⟩ | ⟨rfl, hlight, hheavy, rfl⟩ | ⟨rfl, rfl⟩ |
    ⟨rfl | rfl | rfl, rfl⟩
  · exact if_pos hlight
  · have hnot : ¬on < heatTgt * 3 / 4 := by omega
    exact (if_neg hnot).trans (if_pos hheavy)
  · exact (if_neg (Nat.not_lt.2 hlight)).trans (if_neg (Nat.not_lt.2 hheavy))
  all_goals rfl

theorem effectiveEnd_ite {α : Type} (cause : HeatEnd) (a b : α) :
    (if effectiveEnd cause then a else b) = if cause = .aborted ∨ cause = .starved then b else a := by
  cases cause <;> simp [effectiveEnd]

theorem takeHeatEnd_eq {s : State} {cause : HeatEnd} {on newT : Nat}
    (h : adaptedT s.fest.t s.fest.heatTgt cause on = newT) : takeHeatEnd s cause on =
      { s with
        handovers := s.handovers ++ [.tHandBack s.fest.t newT],
        fest := { s.fest with
          t := newT, f := if cause = .aborted ∨ cause = .starved then s.fest.f else 0 } } := by
  subst h
  rw [← effectiveEnd_ite]
  rfl

/-- Settles O39: three events, each by its own equation. -/
theorem frostEventsAdapt : Obligations.FrostEventsAdapt := by
  intro s hrun
  refine ⟨?_, fun cause => ?_, fun cause on newT h => ?_⟩
  · change execFillWaterMillilitre s = _
    exact perform_next hrun rfl
  · change execCompletionAtFest cause s = _
    refine perform_next hrun ?_
    rw [← effectiveEnd_ite]
    rfl
  · change execHeatEndAtFest cause on s = _
    exact perform_next hrun (takeHeatEnd_eq (adaptedT_eq h))

end Sys2Proof.Machine
end

section
/-! SCAN: samples in every channel status, switch inputs, watermarks and edge codes (R1 to R14). -/

namespace Sys2Proof.Machine

open Sys2Proof Sys2Proof.Safety

/-! ### Samples (R1 to R9) -/

theorem handChannel_eq (s : State) (ch : Channel) (r : ChannelRec) :
    handChannel s ch r = { s with handovers := s.handovers ++ channelHandover ch r } := by
  cases ch <;> simp [handChannel, channelHandover, State.handover, State.withHandovers]

/-- The record that a sample leaves, its period timer and its reading among it. -/
def sampledRecord (e : SampleEffect) (due : Nat) (reading : Temp) : ChannelRec :=
  { e.record with sampleTimer := some (due + 1000), reading := reading }

/-- What a sample hands on: its event first, then the channel. -/
def sampleHandovers (e : SampleEffect) (ch : Channel) (r : ChannelRec) : List Instr :=
  (match e.raised with
    | some ev => [.eventTaken ev]
    | none => []) ++ (if e.handed then channelHandover ch r else [])

theorem takeSample_eq {s : State} {ch : Channel} {reading : Temp} {e : SampleEffect} (due : Nat)
    (he : sampleEffect ch (s.channel ch) (classify reading (s.channel ch).offset) = e) :
    takeSample s ch reading due =
      { s with
        handovers := s.handovers ++ sampleHandovers e ch (sampledRecord e due reading),
        scan := { s.scan with
          chans := setChannel s.scan.chans ch (sampledRecord e due reading) } } := by
  unfold takeSample sampleHandovers
  simp only [he, handChannel_eq, Config.second_eq]
  cases e.raised <;> cases e.handed <;>
    simp [sampledRecord, State.withChannel, State.withScan, State.raise, State.handover,
      State.withHandovers]

theorem exec_samplePeriod {s : State} {ch : Channel} {reading : Temp} {due : Nat} {e : SampleEffect}
    (hrun : s.running = true) (hdue : (s.channel ch).sampleTimer = some due)
    (he : sampleEffect ch (s.channel ch) (classify reading (s.channel ch).offset) = e) :
    exec (.samplePeriod ch reading) s = .next { s.taken (.samplePeriod ch reading) with
      now := max s.now due,
      handovers := (s.taken (.samplePeriod ch reading)).handovers
        ++ sampleHandovers e ch (sampledRecord e due reading),
      scan := { s.scan with
        chans := setChannel s.scan.chans ch (sampledRecord e due reading) } } := by
  change execSamplePeriod ch reading s = _
  refine perform_expiry hrun hdue ?_
  exact takeSample_eq (s := (s.taken _).withNow _) due he

theorem faultedSample_valid {r : ChannelRec} (ch : Channel) (v : Temp) :
    faultedSample ch r (.valid v) =
      if 2 ≤ r.good then
        { record := formValue { r with status := .ok, bad := 0, good := 0 } (pushSample r.window v),
          handed := true,
          raised := some (.sensorRecovered ch (formedValue (pushSample r.window v))) }
      else
        { record := { r with window := pushSample r.window v, good := r.good + 1 }, handed := false,
          raised := none } := by
  simp only [faultedSample, Nat.add_le_add_iff_right (n := 1) (m := 2)]

theorem sampleEffect_of_faulted {r : ChannelRec} (ch : Channel) (x : Sample)
    (h : r.status = .faultOpen ∨ r.status = .faultShort) :
    sampleEffect ch r x = faultedSample ch r x := by
  rcases h with h | h <;> simp [sampleEffect, h]

theorem sampleEffect_starting_valid {r : ChannelRec} (ch : Channel) (v : Temp)
    (h : r.status = .starting) : sampleEffect ch r (.valid v) =
      { record := { r with
          status := .ok, bad := 0, window := [v], value := some v,
          wmin := min r.wmin v, wmax := max r.wmax v },
        handed := true, raised := none } := by
  simp [sampleEffect, h, formValue, formedValue_singleton]

theorem sampleEffect_ok_valid {r : ChannelRec} (ch : Channel) (v : Temp) (h : r.status = .ok) :
    sampleEffect ch r (.valid v) =
      { record := formValue { r with bad := 0 } (pushSample r.window v), handed := true,
        raised := none } := by
  simp only [sampleEffect, h]

theorem sampleEffect_outOfRange {r : ChannelRec} (ch : Channel) (k : FaultKind)
    (h : r.status = .starting ∨ r.status = .ok) :
    sampleEffect ch r (.outOfRange k) = missSample ch r k := by
  rcases h with h | h <;> simp [sampleEffect, h]

/-- Settles O28, by the status the sample finds. -/
theorem validSamples : Obligations.ValidSamples := by
  intro s ch reading due hrun hdue hlo hhi
  have hclass := classify_of_inRange (reading := reading) ⟨hlo, hhi⟩
  dsimp only
  rw [← pushSample_eq]
  refine ⟨fun hs => ?_, fun hs => ?_, fun hs hgood => ?_, fun hs hgood => ?_⟩
  · exact exec_samplePeriod hrun hdue (hclass ▸ sampleEffect_starting_valid ch _ hs)
  · exact exec_samplePeriod hrun hdue (hclass ▸ sampleEffect_ok_valid ch _ hs)
  · have he := (sampleEffect_of_faulted ch (.valid (reading + (s.channel ch).offset)) hs).trans ((faultedSample_valid ch _).trans
      (if_neg (Nat.not_le.2 hgood)))
    exact exec_samplePeriod hrun hdue (hclass ▸ he)
  · have he := (sampleEffect_of_faulted ch (.valid (reading + (s.channel ch).offset)) hs).trans ((faultedSample_valid ch _).trans
      (if_pos hgood))
    exact exec_samplePeriod hrun hdue (hclass ▸ he)

/-- The status and the pins of a record that enters the fault `k`. -/
theorem enterFault_eq (r : ChannelRec) (k : FaultKind) : enterFault r k =
    { r with
      status := if k = .openWire then .faultOpen else .faultShort, window := [], good := 0,
      wmin := if k = .openWire then -400 else r.wmin,
      wmax := if k = .shorted then 600 else r.wmax } := by
  cases k <;> rfl

theorem missSample_eq (ch : Channel) (r : ChannelRec) (k : FaultKind) : missSample ch r k =
    if 2 ≤ r.bad then
      { record := enterFault { r with bad := 3 } k, handed := true, raised := some (.sensorFault ch k) }
    else { record := { r with bad := r.bad + 1 }, handed := false, raised := none } := by
  simp only [missSample, Nat.add_le_add_iff_right (n := 1) (m := 2)]

/-- Settles O29, by the status the sample finds. -/
theorem outOfRangeSamples : Obligations.OutOfRangeSamples := by
  intro s ch reading due k hrun hdue hopen hshort
  have hclass : classify reading (s.channel ch).offset = .outOfRange k := by
    cases k with
    | openWire => exact classify_of_below (hopen rfl)
    | shorted => exact classify_of_above (hshort rfl)
  dsimp only
  refine ⟨fun hs => ⟨fun hbad => ?_, fun hbad => ?_⟩, fun hs => ⟨fun hsame => ?_, fun hother => ?_⟩⟩
  · have he := (sampleEffect_outOfRange ch k hs).trans ((missSample_eq ch _ k).trans
      (if_neg (Nat.not_le.2 hbad)))
    exact exec_samplePeriod hrun hdue (hclass ▸ he)
  · have he := (sampleEffect_outOfRange ch k hs).trans ((missSample_eq ch _ k).trans (if_pos hbad))
    rw [enterFault_eq] at he
    exact exec_samplePeriod hrun hdue (hclass ▸ he)
  · have he : sampleEffect ch (s.channel ch) (.outOfRange k) = _ :=
      (sampleEffect_of_faulted ch (.outOfRange k) hs).trans
        (if_pos (hsame.trans (by cases k <;> rfl)))
    exact exec_samplePeriod hrun hdue (hclass ▸ he)
  · have he : sampleEffect ch (s.channel ch) (.outOfRange k) = _ :=
      (sampleEffect_of_faulted ch (.outOfRange k) hs).trans
        (if_neg fun h => hother (h.trans (by cases k <;> rfl)))
    rw [enterFault_eq] at he
    exact exec_samplePeriod hrun hdue (hclass ▸ he)

/-! ### Switch inputs (R11 to R14) -/

@[simp] theorem getSwitch_setSwitch_self (w : Switches) (i : SwitchInput) (r : SwitchRec) :
    getSwitch (setSwitch w i r) i = r := by
  cases i <;> rfl

theorem debounceMs_eq (i : SwitchInput) :
    Config.debounceMs i = if i = .binBeam then 10000 else 50 := by
  cases i <;> rfl

theorem comparePin_of_agree {r : SwitchRec} (now : Nat) (i : SwitchInput)
    (h : r.pinLow = r.asserted) : comparePin now i r = { r with timer := none } := if_pos h

theorem comparePin_of_stopped {r : SwitchRec} (now : Nat) (i : SwitchInput)
    (h : r.pinLow ≠ r.asserted) (ht : r.timer = none) : comparePin now i r =
      { r with timer := some (now + if i = .binBeam then 10000 else 50) } := by
  rw [comparePin, if_neg h, ht, debounceMs_eq]

theorem comparePin_of_running {r : SwitchRec} (now : Nat) (i : SwitchInput)
    (h : r.pinLow ≠ r.asserted) (ht : r.timer ≠ none) : comparePin now i r = r := by
  obtain ⟨t, ht⟩ := Option.ne_none_iff_exists'.1 ht
  rw [comparePin, if_neg h, ht]
  dsimp only
  rw [← ht]

/-- A pin change compares the pin, unless the part is held (R11, log 7). -/
theorem exec_switchPinChange_of_running {s : State} {i : SwitchInput} {low : Bool} {r' : SwitchRec}
    (hrun : s.running = true)
    (h : comparePin s.now i { getSwitch s.scan.switches i with pinLow := low } = r') :
    exec (.switchPinChange i low) s = .next { s with
      scan := { s.scan with switches := setSwitch s.scan.switches i r' } } := by
  subst h
  change Host.Outcome.next (s.withSwitch i (if s.running then _ else _)) = _
  rw [if_pos hrun]
  rfl

theorem exec_switchPinChange_of_held {s : State} (i : SwitchInput) (low : Bool)
    (hheld : s.running = false) : exec (.switchPinChange i low) s = .next { s with
      scan := { s.scan with
        switches := (setSwitch s.scan.switches i
          { getSwitch s.scan.switches i with pinLow := low }) } } := by
  change Host.Outcome.next (s.withSwitch i (if s.running then _ else _)) = _
  rw [if_neg (by simp [hheld])]
  rfl

theorem handSwitch_eq (s : State) (i : SwitchInput) (asserted : Bool) :
    handSwitch s i asserted =
      { s with handovers := s.handovers ++ switchHandover i asserted } := by
  cases i <;> simp [handSwitch, switchHandover, State.handover, State.withHandovers]

theorem edgeSelected_eq (edge : BitVec 2) (asserted : Bool) :
    edgeSelected edge asserted = edge.getLsbD (if asserted then 0 else 1) := by
  cases asserted <;> rfl

/-- R12: the end of a debounce time, whole. -/
theorem changeSwitch_eq (s : State) (i : SwitchInput) : changeSwitch s i =
    (let r := getSwitch s.scan.switches i
    { s with
      handovers := s.handovers ++ switchHandover i r.pinLow
        ++ (if r.edge.getLsbD (if r.pinLow then 0 else 1)
            then [.eventTaken (.inputEdge i r.pinLow)] else []),
      scan := { s.scan with
        switches := setSwitch s.scan.switches i { r with asserted := r.pinLow, timer := none } } }) := by
  unfold changeSwitch
  simp only [handSwitch_eq, edgeSelected_eq]
  generalize BitVec.getLsbD _ _ = selected
  cases selected <;>
    simp [State.withSwitch, State.withScan, State.raise, State.handover, State.withHandovers]

/-- Settles O30: the pin, the debounce timer and the count second. -/
theorem switchInputsDebounce : Obligations.SwitchInputsDebounce := by
  refine ⟨fun s i low => ⟨fun hheld => ?_, fun hrun hsame => ?_, fun hrun hdiff ht => ?_,
    fun hrun hdiff ht => ?_⟩, fun s i due hrun hdue => ?_, fun s due hrun hdue => ?_⟩
  · exact exec_switchPinChange_of_held i low hheld
  · exact exec_switchPinChange_of_running hrun (comparePin_of_agree _ _ hsame)
  · exact exec_switchPinChange_of_running hrun (comparePin_of_stopped _ _ hdiff ht)
  · exact exec_switchPinChange_of_running hrun (comparePin_of_running _ _ hdiff ht)
  · change execDebounceExpiry i s = _
    exact perform_expiry hrun hdue (changeSwitch_eq _ i)
  · change execCountSecond s = _
    exact perform_expiry hrun hdue rfl

/-! ### Watermarks and edge codes (R10, R13) -/

theorem leTemp_eq (v : Temp) : leTemp v =
    [BitVec.ofNat 8 (BitVec.ofInt 16 v).toNat, BitVec.ofNat 8 ((BitVec.ofInt 16 v).toNat / 256)] := rfl

theorem resetWatermarks_eq (r : ChannelRec) : resetWatermarks r =
    { r with
      wmin := if r.status = .faultOpen then -400 else 600,
      wmax := if r.status = .faultShort then 600 else -400 } := by
  cases hs : r.status <;> simp [resetWatermarks, hs, pinWatermark]

theorem inputOf_of_none {n : Byte} (h : 6 ≤ n.toNat) : inputOf n = none := by
  unfold inputOf
  split
  case h_7 => rfl
  all_goals omega

theorem inputOf_of_number {n : Byte} {i : SwitchInput} (h : n.toNat = inputNumber i) :
    inputOf n = some i := by
  rw [inputOf, h]
  cases i <;> rfl

/-- Settles O27. The code byte of a BAD_PARAM answer is a free value (log 19). -/
theorem watermarksAndEdgeCodes : Obligations.WatermarksAndEdgeCodes := by
  refine ⟨fun s hrun => ?_, fun s input code hrun => ⟨fun hbad => ?_, fun i hi => ?_⟩⟩
  · refine ⟨_, mapChannels resetWatermarks s.scan.chans, rfl, ?_, fun ch => ?_⟩
    · change execReadWatermarks s = _
      exact perform_next hrun rfl
    · rw [getChannel_mapChannels, resetWatermarks_eq]
  · refine ⟨Config.freeByte s.freeCount, ?_⟩
    change execSetEdge input code s = _
    refine perform_next hrun ?_
    rw [setEdge, inputOf_of_none hbad]
    rfl
  · change execSetEdge input code s = _
    refine perform_next hrun ?_
    have hcode : (BitVec.ofNat 2 (min code.toNat 3)).toNat = min code.toNat 3 := by
      rw [BitVec.toNat_ofNat]
      exact Nat.mod_eq_of_lt (by omega)
    rw [setEdge, inputOf_of_number hi]
    simp only [hcode]
    rfl

end Sys2Proof.Machine
end

section
/-! Answers, replies, reports and saves (R144 to R151, R158, R159, R164, R166, R167, R172), and the state
after the first power-on. -/

namespace Sys2Proof.Machine

open Sys2Proof Sys2Proof.Safety

/-- Settles O11: every value of the state is written out. -/
theorem resetMeetsTheInvariants : Obligations.ResetMeetsTheInvariants := by
  refine ⟨?_, ?_, ?_, ?_, ?_, ?_⟩ <;> decide

/-! ### Answers (R158, R159) -/

/-- The CHECK byte makes the sum 0. -/
theorem byteSum_withCheck (bytes : List Byte) : byteSum (withCheck bytes) = 0 := by
  unfold withCheck byteSum
  rw [List.foldl_append, List.foldl_cons, List.foldl_nil]
  exact BitVec.add_right_neg _

theorem answer_eq (s : State) (kind : Byte) (result : Result) (payload : List Byte) :
    answer s kind result payload =
      (let bytes := replyFrame kind s.lnk.reqTag result payload
      { s with lnk := { s.lnk with
        replyInProgress := true, reply := some { rate := s.lnk.rate, bytes := bytes },
        replyTimer := some (s.now +
          (bytes.length * 10000 + rateBps s.lnk.rate - 1) / rateBps s.lnk.rate) } }) := by
  simp only [answer, frameMs, Nat.mul_assoc, State.withLnk]

/-- Settles O14: the check byte is the one that `withCheck` appends. -/
theorem replyFrameSumsToZero : Obligations.ReplyFrameSumsToZero := by
  refine ⟨rfl, fun s kind result payload => ?_, fun kind tag result payload _ => ?_⟩
  · rw [answer_eq]
    cases s.lnk.rate <;> rfl
  · exact ⟨-byteSum ([BitVec.ofNat 8 payload.length, kind + 0x80, tag, resultCode result] ++ payload),
      rfl, byteSum_withCheck _⟩

/-- Settles O20: the reply timer, and the mark that RESET PART leaves. -/
theorem repliesEndAndResetPartWaits : Obligations.RepliesEndAndResetPartWaits := by
  intro s hrun
  refine ⟨fun due hdue hno => ?_, _, ?_, rfl⟩
  · change execReplyEnd s = _
    refine perform_expiry hrun hdue ?_
    simp [endReply, hno, State.withLnk]
  · change execResetPart s = _
    exact perform_next hrun rfl

/-- Settles O22: the payload, byte for byte, and the counts cleared after it. -/
theorem linkStatusReply : Obligations.LinkStatusReply := by
  refine ⟨by decide, fun s hrun _ => ⟨_, rfl, ?_⟩⟩
  change execLinkStatus s = _
  exact perform_next hrun rfl

/-! ### Reports (R144 to R151) -/

theorem enablesPayload_eq (r : Rpu) : enablesPayload r =
    [BitVec.ofNat 8 r.enables.toNat, BitVec.ofNat 8 (r.enables.toNat / 256)]
      ++ [BitVec.ofNat 8 r.attnEnable.toNat] := by
  simp [enablesPayload, le, bitsByte, packBits]

/-- R145: an ATTN value of 0 or 1 is the byte of the enable it gives. -/
theorem ofNat_decide_one {attn : Byte} (h : attn.toNat ≤ 1) :
    BitVec.ofNat 8 (decide (attn = 1)).toNat = attn := by
  by_cases h1 : attn = 1
  · simp [h1]
  · have h0 : attn = 0 := by
      have hne : attn.toNat ≠ 1 := fun hn => h1 (BitVec.eq_of_toNat_eq hn)
      exact BitVec.eq_of_toNat_eq (show attn.toNat = 0 by omega)
    simp [h0]

/-- Settles O59: the age second and the four requests, each by its definition. -/
theorem reportRequests : Obligations.ReportRequests := by
  intro s hrun
  refine ⟨fun due hdue => ?_, fun kinds => ?_, fun kinds attn => ⟨fun hbad => ?_, fun hok => ?_⟩,
    fun count => ?_, ?_⟩
  · change execAgeSecond s = _
    exact perform_expiry hrun hdue rfl
  · change execClearEvents kinds s = _
    refine perform_next hrun ?_
    unfold clearEvents
    cases kinds.getLsbD 10 <;>
      simp only [Bool.false_eq_true, if_false, if_true, List.append_nil] <;> rfl
  · change execSetReportEnables kinds attn s = _
    refine perform_next hrun ?_
    rw [setReportEnables, if_pos hbad, enablesPayload_eq]
    rfl
  · change execSetReportEnables kinds attn s = _
    refine perform_next hrun ?_
    rw [setReportEnables, if_neg (Nat.not_lt.2 hok)]
    simp only [enablesPayload_eq, evalAttn, ofNat_decide_one hok]
    rfl
  · change execFetchReports count s = _
    exact perform_next hrun rfl
  · change execReadReportCounts s = _
    exact perform_next hrun rfl

/-! ### Saves (R166, R167) -/

/-- Settles O60: with no write in hand one starts, and its end starts the next when one waits. -/
theorem savesAreWritten : Obligations.SavesAreWritten := by
  intro s hrun
  refine ⟨fun hw => ?_, fun hw => ?_, fun v hw => ⟨fun hp => ?_, fun hp => ?_⟩⟩
  · change execSaveRequest s = _
    refine perform_next hrun ?_
    simp [requestSave, hw, startWrite, liveValues, State.withLnk, State.withStore]
  · change execSaveRequest s = _
    refine perform_next hrun ?_
    obtain ⟨v, hv⟩ := Option.ne_none_iff_exists'.1 hw
    simp [requestSave, hv, State.withLnk]
  · change execWriteEnd s = _
    refine perform_next hrun ?_
    simp [endWrite, hw, hp, State.withLnk, State.withStore]
  · change execWriteEnd s = _
    refine perform_next hrun ?_
    simp [endWrite, hw, hp, startWrite, liveValues, State.withLnk, State.withStore]

end Sys2Proof.Machine
end

section
/-! LNK: request codes, frames, the break and the sync byte (R155 to R159). -/

namespace Sys2Proof.Machine

open Sys2Proof Sys2Proof.Safety

/-! ### Request codes (TABLE 9-2, TABLE 9-5) -/

/-- A request is read back from the KIND and the payload it writes; numbers are put together again from
their bytes. -/
theorem lookupRequest_encodeRequest {i : Instr} {kind : Byte} {payload : List Byte}
    (h : encodeRequest i = some (kind, payload)) : lookupRequest kind payload = .request i := by
  cases i
  all_goals first | cases h; done | obtain ⟨rfl, rfl⟩ := Prod.mk.inj (Option.some.inj h)
  case setParam id value => exact congrArg (Lookup.request ∘ Instr.setParam id) (byteOf_append32 value)
  case filterReset capacity => exact congrArg (Lookup.request ∘ Instr.filterReset) (byteOf_append24 capacity)
  case dispensePortion tag volume options =>
    exact congrArg (fun v => Lookup.request (.dispensePortion tag v options)) (byteOf_append16 volume)
  case clearEvents kinds => exact congrArg (Lookup.request ∘ Instr.clearEvents) (byteOf_append16 kinds)
  case setReportEnables kinds attn =>
    exact congrArg (fun v => Lookup.request (.setReportEnables v attn)) (byteOf_append16 kinds)
  all_goals rfl

theorem encodeRequest_length {i : Instr} {kind : Byte} {payload : List Byte}
    (h : encodeRequest i = some (kind, payload)) : payload.length ≤ 64 := by
  cases i
  all_goals first | cases h; done | obtain ⟨rfl, rfl⟩ := Prod.mk.inj (Option.some.inj h)
  all_goals simp

/-- Settles O12: each request by its constructor, each code of the table by its number. -/
theorem requestCodesRoundTrip : Obligations.RequestCodesRoundTrip := by
  refine ⟨fun i kind payload h => ⟨lookupRequest_encodeRequest h, encodeRequest_length h⟩,
    by decide, by decide, fun a b c d e => ⟨rfl, rfl, rfl, rfl, rfl, rfl, rfl, rfl, rfl, rfl⟩⟩

/-! ### The break and the sync byte (R155, R156) -/

section
variable {s : State}

theorem takeBreak_of_body (h : s.lnk.receiver = .body) : takeBreak s =
    { s with lnk := { s.lnk with
      receiver := .inBreak, rxBuffer := [], framing := min 255 (s.lnk.framing + 1) } } := by
  simp [takeBreak, h, discardFrame, countError, satAdd, State.withLnk]

theorem takeBreak_of_not_body (h : s.lnk.receiver ≠ .body) : takeBreak s =
    { s with lnk := { s.lnk with receiver := .inBreak, rxBuffer := [] } } := by
  simp [takeBreak, h, State.withLnk]

theorem endBreak_of_break (h : s.lnk.receiver = .inBreak) :
    endBreak s = { s with lnk := { s.lnk with receiver := .sync } } := if_pos h

/-- A low shorter than a break, in SYNC, inside the window of `r`: the rate is in force even where the
rest of the byte is in error. -/
theorem takeSyncByte_of_error {d : Nat} {r : Rate} {m : SyncSamples} {e : LinkError}
    (h : s.lnk.receiver = .sync) (hd : 9600 * d < 13 * 1000000000) (hr : snapRate d = some r)
    (he : syncError m = some e) :
    takeSyncByte s d m = discardFrame (s.withLnk { s.lnk with rate := r }) e := by
  simp only [takeSyncByte, isBreakLow_of_lt hd, h, hr, he]
  rfl

theorem takeSyncByte_of_good {d : Nat} {r : Rate} {m : SyncSamples} (h : s.lnk.receiver = .sync)
    (hd : 9600 * d < 13 * 1000000000) (hr : snapRate d = some r) (he : syncError m = none) :
    takeSyncByte s d m =
      { s with lnk := { s.lnk with rate := r, receiver := .body, rxBuffer := [] } } := by
  simp only [takeSyncByte, isBreakLow_of_lt hd, h, hr, he]
  rfl

theorem takeSyncByte_of_no_rate {d : Nat} (m : SyncSamples) (h : s.lnk.receiver = .sync)
    (hd : 9600 * d < 13 * 1000000000) (hr : snapRate d = none) :
    takeSyncByte s d m = discardFrame s .sync := by
  simp only [takeSyncByte, isBreakLow_of_lt hd, h, hr]
  rfl

theorem takeSyncByte_of_hunt {d : Nat} (m : SyncSamples) (h : s.lnk.receiver = .hunt)
    (hd : 9600 * d < 13 * 1000000000) : takeSyncByte s d m = s := by
  simp [takeSyncByte, isBreakLow_of_lt hd, h]

end

/-- R156: agreeing samples, the stop bit first. -/
theorem syncError_of_agree (b4 b5 b6 b7 stop : Bool) :
    syncError { bit4 := sentBit b4, bit5 := sentBit b5, bit6 := sentBit b6, bit7 := sentBit b7,
                stop := sentBit stop } =
      if stop = false then some .framing else if b4 && b5 && b6 && b7 then none else some .sync := by
  revert b4 b5 b6 b7 stop
  decide

theorem syncError_of_disagree {m : SyncSamples}
    (h : ∃ b ∈ [m.bit4, m.bit5, m.bit6, m.bit7, m.stop], ∀ level, b ≠ sentBit level) :
    syncError m = some .noise := by
  rw [syncError, readBits_of_disagree (data := [m.bit4, m.bit5, m.bit6, m.bit7]) h]
  rfl

theorem exec_syncByte {s t : State} {d : Nat} {m : SyncSamples} (hrun : s.running = true)
    (h : takeSyncByte (s.taken (.syncByte d m)) d m = t) : exec (.syncByte d m) s = .next t := by
  change execSyncByte d m s = _
  exact perform_next hrun h

/-- Settles O18, by the receiver's state, the measured low and the samples after it. -/
theorem breakAndSyncByte : Obligations.BreakAndSyncByte := by
  intro s hrun
  refine ⟨fun h => ?_, fun h => ?_, fun h => ?_, fun d m => ⟨fun hd => ⟨fun h => ?_, fun h => ?_⟩,
    fun hd h => ?_⟩, fun d m h hd => ⟨fun r hlo hhi => ⟨?_, fun hm => ?_⟩, fun hnone => ?_⟩⟩
  · change execBreakLow s = _
    exact perform_next hrun (takeBreak_of_not_body h)
  · change execBreakLow s = _
    exact perform_next hrun (takeBreak_of_body h)
  · change execBreakEnd s = _
    exact perform_next hrun (endBreak_of_break h)
  · refine exec_syncByte hrun ((takeSyncByte_of_break _ m hd).trans ?_)
    exact Eq.trans (congrArg endBreak (takeBreak_of_not_body h)) (endBreak_of_break rfl)
  · refine exec_syncByte hrun ((takeSyncByte_of_break _ m hd).trans ?_)
    exact Eq.trans (congrArg endBreak (takeBreak_of_body h)) (endBreak_of_break rfl)
  · exact exec_syncByte hrun (takeSyncByte_of_hunt m h hd)
  · have hrate := snapRate_of_window ((inSnapWindow_iff d r).2 ⟨hlo, hhi⟩)
    rintro b4 b5 b6 b7 stop rfl
    refine ⟨fun hall => ?_, fun hstop => ?_, fun hstop hnot => ?_⟩
    · obtain ⟨hbits, hstop⟩ := Bool.and_eq_true_iff.1 hall
      exact exec_syncByte hrun (takeSyncByte_of_good h hd hrate
        (by rw [syncError_of_agree, if_neg (by simp [hstop]), if_pos hbits]))
    · exact exec_syncByte hrun (Eq.trans (takeSyncByte_of_error (e := .framing) h hd hrate
        (by rw [syncError_of_agree, if_pos hstop])) rfl)
    · exact exec_syncByte hrun (Eq.trans (takeSyncByte_of_error (e := .sync) h hd hrate
        (by rw [syncError_of_agree, if_neg (by simp [hstop]), if_neg (by simp [hnot])])) rfl)
  · have hrate := snapRate_of_window ((inSnapWindow_iff d r).2 ⟨hlo, hhi⟩)
    exact exec_syncByte hrun
      (Eq.trans (takeSyncByte_of_error (e := .noise) h hd hrate (syncError_of_disagree hm)) rfl)
  · have hrate : snapRate d = none := snapRate_of_no_window fun r => by
      rw [← Bool.not_eq_true, inSnapWindow_iff]
      have hout : 500000000000 < 95 * rateBps r * d ∨ 105 * rateBps r * d < 500000000000 := hnone r
      omega
    exact exec_syncByte hrun (takeSyncByte_of_no_rate m h hd hrate)

/-! ### Frames (R157 to R159) -/

theorem scanFrame_of_long {len : Byte} {rest : List Byte} (h : 64 < len.toNat) :
    scanFrame (len :: rest) = .tooLong := if_pos h

theorem scanFrame_of_whole {len : Byte} {rest : List Byte} (h : len.toNat ≤ 64)
    (hl : rest.length = len.toNat + 3) : scanFrame (len :: rest) = .whole (len :: rest) := by
  have htake : (len :: rest).take (len.toNat + 4) = len :: rest :=
    List.take_of_length_le (by simp [hl])
  simp only [scanFrame, if_neg (Nat.not_lt.2 h), htake]
  exact if_neg (by simp [hl])

theorem scanFrame_of_part {bytes : List Byte}
    (h : ∀ len rest, bytes = len :: rest → len.toNat ≤ 64 ∧ rest.length < len.toNat + 3) :
    scanFrame bytes = .partly := by
  cases bytes with
  | nil => rfl
  | cons len rest =>
    obtain ⟨hlen, hl⟩ := h len rest rfl
    simp only [scanFrame, if_neg (Nat.not_lt.2 hlen)]
    exact if_pos (by simp only [List.length_cons]; omega)

section
variable {s : State} {bytes : List Byte} {error : Option RxError}

theorem receiveBytes_of_long (h : s.lnk.receiver = .body)
    (hscan : scanFrame (s.lnk.rxBuffer ++ bytes) = .tooLong) :
    receiveBytes s bytes error = discardFrame s .check := by
  simp only [receiveBytes, if_pos h, hscan]

theorem receiveBytes_of_whole {frame : List Byte} (h : s.lnk.receiver = .body)
    (hscan : scanFrame (s.lnk.rxBuffer ++ bytes) = .whole frame) :
    receiveBytes s bytes error = finishFrame s frame := by
  simp only [receiveBytes, if_pos h, hscan]

theorem receiveBytes_of_part (h : s.lnk.receiver = .body)
    (hscan : scanFrame (s.lnk.rxBuffer ++ bytes) = .partly) :
    receiveBytes s bytes none =
      { s with lnk := { s.lnk with rxBuffer := s.lnk.rxBuffer ++ bytes } } := by
  simp only [receiveBytes, if_pos h, hscan]
  rfl

theorem receiveBytes_of_cut {e : RxError} (h : s.lnk.receiver = .body)
    (hscan : scanFrame (s.lnk.rxBuffer ++ bytes) = .partly) :
    receiveBytes s bytes (some e) = discardFrame s (rxLinkError e) := by
  simp only [receiveBytes, if_pos h, hscan]

theorem finishFrame_of_check (h : byteSum bytes ≠ 0) : finishFrame s bytes = discardFrame s .check :=
  if_pos h

theorem finishFrame_of_overrun (h : byteSum bytes = 0) (hr : s.lnk.replyInProgress = true) :
    finishFrame s bytes = discardFrame s .overrun := by
  simp [finishFrame, h, hr]

theorem finishFrame_of_good (h : byteSum bytes = 0) (hr : s.lnk.replyInProgress = false) :
    finishFrame s bytes = acceptFrame s bytes := by
  simp [finishFrame, h, hr]

end

/-- R158: an accepted frame is dispatched with the payload LEN gives it. -/
theorem acceptFrame_eq (s : State) (kind tag : Byte) {len : Byte} {payload more : List Byte}
    (h : payload.length = len.toNat) : acceptFrame s (len :: kind :: tag :: (payload ++ more)) =
      dispatchFrame { s with lnk := { s.lnk with
        receiver := .hunt, rxBuffer := [], replyInProgress := true, reqTag := tag } } kind payload := by
  simp only [acceptFrame, ← h, List.take_left]
  rfl

theorem lookupRequest_of_unknown {kind : Byte} (payload : List Byte) (h : requestLength kind = none) :
    lookupRequest kind payload = .badKind := by
  simp only [lookupRequest, h]

theorem lookupRequest_of_length {kind : Byte} {payload : List Byte} {n : Nat}
    (h : requestLength kind = some n) (hn : payload.length ≠ n) :
    lookupRequest kind payload = .badLength := by
  simp only [lookupRequest, h, if_neg hn]

/-- A frame completion received in BODY, its samples read. -/
theorem exec_frameCompletion {s t : State} {bytes : List LineByte} {last : LineByte} {read : List Byte}
    {error : Option RxError} (hrun : s.running = true)
    (hread : readLine (bytes ++ [last]) = (read, error))
    (h : receiveBytes (s.taken (.frameCompletion bytes last)) read error = t) :
    exec (.frameCompletion bytes last) s = .next t := by
  change execFrameCompletion bytes last s = _
  refine perform_next hrun ?_
  rw [hread]
  exact h

/-- Settles O13: the bytes are read as sent, they make one whole frame, and its request is read back. -/
theorem acceptedFrameReachesItsOwner : Obligations.AcceptedFrameReachesItsOwner := by
  intro s i tag kind check payload bytes last hrun hbody hbuffer hreply hcode body hsum hsent c
  have hlen := encodeRequest_length hcode
  have hlenByte : (BitVec.ofNat 8 payload.length).toNat = payload.length :=
    (BitVec.toNat_ofNat _ _).trans (Nat.mod_eq_of_lt (by omega))
  have hread : readLine (bytes ++ [last]) = (body, none) := hsent ▸ readLine_sentByte body
  have hscan : scanFrame ((s.taken c).lnk.rxBuffer ++ body) = .whole body := by
    simp only [State.taken_lnk, hbuffer]
    exact scanFrame_of_whole (by omega) (by simp [hlenByte])
  refine exec_frameCompletion hrun hread (Eq.trans (receiveBytes_of_whole hbody hscan) ?_)
  refine Eq.trans (finishFrame_of_good hsum hreply) ?_
  refine Eq.trans (acceptFrame_eq _ kind tag (payload := payload) (more := [check]) hlenByte.symm) ?_
  simp only [dispatchFrame, lookupRequest_encodeRequest hcode]
  rfl

theorem readLine_of_disagree {b : LineByte} (more : List LineByte)
    (h : ∃ m ∈ lineData b ++ [b.stop], ∀ level, m ≠ sentBit level) :
    readLine (b :: more) = ([], some .noise) := by
  simp only [readLine, readBits_of_disagree h]

theorem readLevels_of_agree {data : List BitSamples} (h : ∀ m ∈ data, ∃ level, m = sentBit level) :
    ∃ levels, readLevels data = some levels := by
  induction data with
  | nil => exact ⟨[], rfl⟩
  | cons m data ih =>
    obtain ⟨level, rfl⟩ := h m List.mem_cons_self
    obtain ⟨levels, hlevels⟩ := ih fun m hm => h m (List.mem_cons_of_mem _ hm)
    exact ⟨level :: levels, by simp only [readLevels, readBit_sentBit, hlevels]⟩

theorem readLine_of_lowStop {b : LineByte} (more : List LineByte)
    (h : ∀ m ∈ lineData b, ∃ level, m = sentBit level) (hstop : b.stop = sentBit false) :
    readLine (b :: more) = ([], some .framing) := by
  obtain ⟨levels, hlevels⟩ := readLevels_of_agree h
  have hread : readBits (lineData b) b.stop = .error .framing := by
    simp [readBits, hlevels, hstop, readBit_sentBit]
  simp only [readLine, hread]

theorem readLine_cons_sentByte (x : Byte) (more : List LineByte) :
    readLine (sentByte x :: more) = (x :: (readLine more).1, (readLine more).2) := by
  obtain ⟨levels, hread, hbyte⟩ := readBits_sentByte x
  simp only [readLine, hread, hbyte]

/-- Settles O19: the reading of the line by its first byte, then a completion by where the bytes of the
frame stand. -/
theorem framesDiscardedOrRefused : Obligations.FramesDiscardedOrRefused := by
  refine ⟨⟨rfl, fun b more => ⟨?_, readLine_of_disagree more, readLine_of_lowStop more⟩⟩, ?_⟩
  · rintro x rfl
    exact readLine_cons_sentByte x more
  intro s bytes last read error hrun hbody hread c buffer
  refine ⟨fun len rest hbuffer hlong => ?_, fun len rest hbuffer hlen hl => ?_, fun hpart => ?_⟩
  · have hscan : scanFrame buffer = .tooLong := by rw [hbuffer, scanFrame_of_long hlong]
    exact exec_frameCompletion hrun hread (Eq.trans (receiveBytes_of_long hbody hscan) rfl)
  · have hscan : scanFrame buffer = .whole (len :: rest) := by
      rw [hbuffer, scanFrame_of_whole hlen hl]
    refine ⟨fun hsum => ?_, fun hsum hreply => ?_, fun kind tag more hsum hreply hrest => ?_⟩
    all_goals have hwhole := receiveBytes_of_whole (s := s.taken c) (error := error) hbody hscan
    · exact exec_frameCompletion hrun hread
        (hwhole.trans (Eq.trans (finishFrame_of_check hsum) rfl))
    · exact exec_frameCompletion hrun hread
        (hwhole.trans (Eq.trans (finishFrame_of_overrun hsum hreply) rfl))
    · have hmore : (more.take len.toNat).length = len.toNat := by
        simp only [hrest, List.length_cons] at hl
        rw [List.length_take]
        omega
      have haccept := acceptFrame_eq (s.taken c) kind tag (more := more.drop len.toNat) hmore
      rw [List.take_append_drop, ← hrest] at haccept
      have hdispatch := hwhole.trans ((finishFrame_of_good (s := s.taken c) hsum hreply).trans haccept)
      refine ⟨fun hnone => ?_, fun n hn hne => ?_⟩
      · refine exec_frameCompletion hrun hread (hdispatch.trans ?_)
        simp only [dispatchFrame, lookupRequest_of_unknown _ hnone]
        rfl
      · refine exec_frameCompletion hrun hread (hdispatch.trans ?_)
        simp only [dispatchFrame,
          lookupRequest_of_length hn (fun h : (more.take len.toNat).length = n => hne (by omega))]
        rfl
  · have hscan : scanFrame buffer = .partly := scanFrame_of_part hpart
    refine ⟨?_, ?_, ?_⟩
    · rintro rfl
      exact exec_frameCompletion hrun hread (Eq.trans (receiveBytes_of_part hbody hscan) rfl)
    all_goals
      rintro rfl
      exact exec_frameCompletion hrun hread (Eq.trans (receiveBytes_of_cut hbody hscan) rfl)

end Sys2Proof.Machine
end

section
/-! DFC (Section 4): the start, HEAT, DRIP, RECOVER, completion and abort, an equation for each
operation. -/

namespace Sys2Proof.Machine

open Sys2Proof Sys2Proof.Safety

/-! ### Starting (R60 to R64) -/

section
variable {s : State}

theorem enterHeat_eq (h : s.dfc.state = .pending) : enterHeat s =
    { s with
      handovers := s.handovers ++
        [.loadRequest .defHtr (s.load .defHtr).duty,
         .eventTaken (.defrostPhase .heat .pending none), .dfcStateAtImc .heat],
      dfc := { s.dfc with
        state := .heat, cmpInhibit := true, fanEn := false, onSeconds := 0, wallSeconds := 0,
        heatTimer := some (s.now + 1000), heaterOn := false,
        fallback := decide ((s.channel .ev).status ≠ .ok) } } := by
  simp only [enterHeat, changeDefrost, h, State.handover, State.raise, State.withHandovers,
    State.withDfc, List.append_assoc]
  rfl

theorem enterPending_of_filling (reason : StartReason) (frost : Nat) (h : s.dfc.state = .watch)
    (hi : s.imc.state = .filling) : enterPending s reason frost =
    { s with
      handovers := s.handovers ++
        [.eventTaken (.defrostPhase .pending .watch (some (.start reason))), .dfcStateAtImc .pending],
      dfc := { s.dfc with
        state := .pending, current := some (openDefrost reason frost (gapMinutes s)) } } := by
  simp [enterPending, changeDefrost, h, hi, State.handover, State.raise, State.withHandovers,
    State.withDfc]

/-- R62, R63: out of FILLING, PENDING goes on to HEAT in the same act. -/
theorem enterPending_of_not_filling (reason : StartReason) (frost : Nat) (h : s.dfc.state = .watch)
    (hi : s.imc.state ≠ .filling) : enterPending s reason frost =
    enterHeat { s with
      handovers := s.handovers ++
        [.eventTaken (.defrostPhase .pending .watch (some (.start reason))), .dfcStateAtImc .pending],
      dfc := { s.dfc with
        state := .pending, current := some (openDefrost reason frost (gapMinutes s)) } } := by
  simp [enterPending, changeDefrost, h, hi, State.handover, State.raise, State.withHandovers,
    State.withDfc]

theorem takeDefrostRequest_of_ignored (reason : FestReason) (frost : Nat)
    (h : s.dfc.state ≠ .watch ∨ s.dfc.holdTimer ≠ none) : takeDefrostRequest s reason frost = s :=
  if_neg fun hw => h.elim (fun hn => hn hw.1) fun hn => hn hw.2

theorem takeDefrostRequest_of_taken (reason : FestReason) (frost : Nat) (h : s.dfc.state = .watch)
    (ht : s.dfc.holdTimer = none) :
    takeDefrostRequest s reason frost = enterPending s (startReasonOf reason) frost :=
  if_pos ⟨h, ht⟩

theorem startReasonOf_eq (reason : FestReason) :
    startReasonOf reason = if reason = .backstop then .backstop else .threshold := by
  cases reason <;> rfl

theorem startDefrost_of_refused (h : s.dfc.state ≠ .watch) : startDefrost s =
    answer s 0x40 .refusedState (le 1 (defrostStateCode s.dfc.state)) :=
  if_neg h

/-- R61: DEFROST START clears the retry hold, and its reply carries the state it leaves. -/
theorem startDefrost_of_watch {u : State} (h : s.dfc.state = .watch)
    (hu : enterPending { s with dfc := { s.dfc with holdTimer := none } } .manual s.fest.f = u) :
    startDefrost s = answer u 0x40 .ok (le 1 (defrostStateCode u.dfc.state)) := by
  subst hu
  exact if_pos h

end

theorem exec_defrostRequest {s t : State} {reason : FestReason} {frost : Nat} (hrun : s.running = true)
    (h : takeDefrostRequest (s.taken (.defrostRequest reason frost)) reason frost = t) :
    exec (.defrostRequest reason frost) s = .next t := by
  change execDefrostRequest reason frost s = _
  exact perform_next hrun h

theorem exec_defrostStart {s t : State} (hrun : s.running = true)
    (h : startDefrost (s.taken .defrostStart) = t) : exec .defrostStart s = .next t := by
  change execDefrostStart s = _
  exact perform_next hrun h

theorem exec_defrostAbort {s t : State} (hrun : s.running = true)
    (h : abortDefrost (s.taken .defrostAbort) = t) : exec .defrostAbort s = .next t := by
  change execDefrostAbort s = _
  exact perform_next hrun h

/-! ### Abort (R72) -/

theorem abortDefrost_of_pending {s : State} (h : s.dfc.state = .pending) : abortDefrost s = answer
    { s with
      handovers := s.handovers ++
        [.eventTaken (.defrostPhase .watch .pending (some (.finish .aborted))), .dfcStateAtImc .watch],
      dfc := { s.dfc with
        state := .watch, current := none, holdTimer := some (s.now + 1800000) } } 0x41 .ok [1] := by
  simp [abortDefrost, h, changeDefrost, State.handover, State.raise, State.withHandovers,
    State.withDfc, defrostStateCode, le]

theorem abortDefrost_of_heat {s : State} (h : s.dfc.state = .heat) :
    abortDefrost s = answer (heatEnded s .aborted) 0x41 .ok [4] := by
  simp only [abortDefrost, h, endHeat_eq .aborted h]
  rfl

theorem abortDefrost_of_refused {s : State}
    (h : s.dfc.state = .watch ∨ s.dfc.state = .drip ∨ s.dfc.state = .recover) :
    abortDefrost s = answer s 0x41 .refusedState (le 1 (defrostStateCode s.dfc.state)) := by
  rcases h with h | h | h <;> simp [abortDefrost, h]

/-- Settles O40, request by request, by DFC's state and IMC's. -/
theorem defrostsStartAndAbort : Obligations.DefrostsStartAndAbort := by
  refine ⟨fun s hrun => ⟨fun reason frost => ⟨fun h => ?_, fun h ht => ⟨fun hi => ?_, fun hi => ?_⟩⟩,
    ⟨fun h => ?_, fun h hi => ?_, fun h hi => ?_⟩, fun ice => ⟨fun h hice hi => ?_, fun h => ?_⟩⟩,
    fun s hrun => ⟨fun h => ?_, fun h => ?_, fun h => ?_⟩⟩
  · exact exec_defrostRequest hrun (takeDefrostRequest_of_ignored reason frost h)
  · refine exec_defrostRequest hrun (Eq.trans (takeDefrostRequest_of_taken reason frost h ht) ?_)
    rw [startReasonOf_eq]
    exact enterPending_of_filling _ frost h hi
  · refine exec_defrostRequest hrun (Eq.trans (takeDefrostRequest_of_taken reason frost h ht) ?_)
    rw [startReasonOf_eq]
    exact Eq.trans (enterPending_of_not_filling _ frost h hi) (enterHeat_eq rfl)
  · exact exec_defrostStart hrun (startDefrost_of_refused h)
  · exact exec_defrostStart hrun (startDefrost_of_watch h (enterPending_of_filling _ _ h hi))
  · exact exec_defrostStart hrun (startDefrost_of_watch h
      (Eq.trans (enterPending_of_not_filling _ _ h hi) (enterHeat_eq rfl)))
  · change execImcStateAtDfc ice s = _
    exact perform_next hrun (Eq.trans (if_pos ⟨h, hice, hi⟩) (enterHeat_eq h))
  · change execImcStateAtDfc ice s = _
    refine perform_next hrun (if_neg ?_)
    rintro ⟨hstate, hice, hi⟩
    exact h.elim (fun hn => hn hstate) fun h => h.elim hice hi
  · exact exec_defrostAbort hrun (abortDefrost_of_pending h)
  · exact exec_defrostAbort hrun (abortDefrost_of_heat h)
  · exact exec_defrostAbort hrun (abortDefrost_of_refused h)

/-! ### The heat seconds (R65, R67) -/

theorem heatLimit_eq_none {fallback : Bool} {on wall : Nat}
    (h : on < if fallback then 1200 else 2400) (hw : wall < 4800) : heatLimit fallback on wall = none := by
  cases fallback
  case false =>
    have hon : ¬2400 ≤ on := Nat.not_le.2 h
    simp [heatLimit, hon, Nat.not_le.2 hw]
  case true =>
    have hon : ¬1200 ≤ on := Nat.not_le.2 h
    simp [heatLimit, hon, Nat.not_le.2 hw]

theorem heatLimit_of_maxTime {on : Nat} (wall : Nat) (h : 2400 ≤ on) :
    heatLimit false on wall = some .maxTime := by
  simp [heatLimit, h]

theorem heatLimit_of_fallbackTime {on : Nat} (wall : Nat) (h : 1200 ≤ on) :
    heatLimit true on wall = some .fallbackTime := by
  simp [heatLimit, h]

theorem heatLimit_of_starved {fallback : Bool} {on wall : Nat}
    (h : on < if fallback then 1200 else 2400) (hw : 4800 ≤ wall) :
    heatLimit fallback on wall = some .starved := by
  cases fallback
  case false =>
    have hon : ¬2400 ≤ on := Nat.not_le.2 h
    simp [heatLimit, hon, hw]
  case true =>
    have hon : ¬1200 ≤ on := Nat.not_le.2 h
    simp [heatLimit, hon, hw]

/-- R65: what a heat second counts. -/
def heatSecondCounted (s : State) (due : Nat) : State :=
  { s with dfc := { s.dfc with
    onSeconds := s.dfc.onSeconds + s.dfc.heaterOn.toNat, wallSeconds := s.dfc.wallSeconds + 1,
    heatTimer := some (due + 1000) } }

theorem takeHeatSecond_eq (s : State) (due : Nat) : takeHeatSecond s due =
    match heatLimit s.dfc.fallback (s.dfc.onSeconds + s.dfc.heaterOn.toNat) (s.dfc.wallSeconds + 1) with
    | some cause => endHeat (heatSecondCounted s due) cause
    | none => heatSecondCounted s due := by
  have hon : (if s.dfc.heaterOn then s.dfc.onSeconds + 1 else s.dfc.onSeconds) =
      s.dfc.onSeconds + s.dfc.heaterOn.toNat := by
    cases s.dfc.heaterOn <;> rfl
  simp only [takeHeatSecond, hon]
  rfl

theorem takeHeatSecond_of_limit {s : State} {cause : HeatEnd} (due : Nat) (h : s.dfc.state = .heat)
    (hl : heatLimit s.dfc.fallback (s.dfc.onSeconds + s.dfc.heaterOn.toNat) (s.dfc.wallSeconds + 1) =
      some cause) : takeHeatSecond s due = heatEnded (heatSecondCounted s due) cause := by
  rw [takeHeatSecond_eq, hl]
  exact endHeat_eq cause h

theorem exec_heatSecond {s t : State} {due : Nat} (hrun : s.running = true) (h : s.dfc.state = .heat)
    (hdue : s.dfc.heatTimer = some due)
    (ht : takeHeatSecond ((s.taken .heatSecond).withNow (max s.now due)) due = t) :
    exec .heatSecond s = .next t := by
  change execHeatSecond s = _
  exact perform_expiry hrun hdue (Eq.trans (if_pos h) ht)

/-- Settles O41, by the limit reached. -/
theorem heatSecondsAndLimits : Obligations.HeatSecondsAndLimits := by
  intro s due hrun h hdue
  refine ⟨fun hon hwall => ?_, fun hon hf => ?_, fun hon hf => ?_, fun hon hwall => ?_⟩
  · refine exec_heatSecond hrun h hdue (Eq.trans (takeHeatSecond_eq _ due) ?_)
    simp only [State.withNow_dfc, State.taken_dfc, heatLimit_eq_none hon hwall]
    rfl
  · rw [hf] at hon
    exact exec_heatSecond hrun h hdue (takeHeatSecond_of_limit due h
      ((congrArg (heatLimit · _ _) hf).trans (heatLimit_of_maxTime _ hon)))
  · rw [hf] at hon
    exact exec_heatSecond hrun h hdue (takeHeatSecond_of_limit due h
      ((congrArg (heatLimit · _ _) hf).trans (heatLimit_of_fallbackTime _ hon)))
  · exact exec_heatSecond hrun h hdue (takeHeatSecond_of_limit due h (heatLimit_of_starved hon hwall))

/-! ### Hand-overs at DFC (R64, R66, R68, R70) -/

section
variable {s : State} {status : ChannelStatus} {value : Option Temp}

theorem evRestartsFan_iff :
    evRestartsFan status value = true ↔ status = .ok ∧ ∃ v, value = some v ∧ v ≤ -50 := by
  unfold evRestartsFan
  split
  · rename_i v
    rw [decide_eq_true_iff]
    simp
  · rename_i hno
    exact iff_of_false Bool.false_ne_true fun ⟨hok, v, hv, _⟩ => hno v hok hv

theorem takeEv_of_heat (h : s.dfc.state = .heat) : takeEv s status value = evInHeat s status value := by
  simp only [takeEv, h]

theorem takeEv_of_warm (h : s.dfc.state = .recover) (hr : ¬evRestartsFan status value = true) :
    takeEv s status value = s := by
  simp only [takeEv, h]
  exact if_neg hr

theorem takeEv_of_cold {r : DefrostRecord} {cause : HeatEnd} (h : s.dfc.state = .recover)
    (hr : evRestartsFan status value = true) (hcur : s.dfc.current = some r)
    (hend : r.endCause = some cause) : takeEv s status value = fanRestarted s r cause := by
  simp only [takeEv, h]
  exact (if_pos hr).trans (restartFan_eq hcur hend)

theorem takeEv_of_idle (h : s.dfc.state = .watch ∨ s.dfc.state = .pending ∨ s.dfc.state = .drip) :
    takeEv s status value = s := by
  rcases h with h | h | h <;> simp only [takeEv, h]

theorem evInHeat_of_not_ok (h : status ≠ .ok) : evInHeat s status value =
    (let u := { s with dfc := { s.dfc with fallback := true } }
    if 1200 ≤ s.dfc.onSeconds then endHeat u .fallbackTime else u) := by
  cases status <;> first | exact absurd rfl h | (cases value <;> rfl)

end

theorem exec_evAtDfc {s t : State} {status : ChannelStatus} {value : Option Temp}
    (hrun : s.running = true) (h : takeEv (s.taken (.evAtDfc status value)) status value = t) :
    exec (.evAtDfc status value) s = .next t := by
  change execEvAtDfc status value s = _
  exact perform_next hrun h

theorem heaterOn_set_eq (isOn was heats : Bool) :
    (isOn && (was || heats)) = if isOn = false then false else if heats = true then true else was := by
  cases isOn <;> cases was <;> cases heats <;> rfl

/-- Settles O42, by the hand-over and DFC's state. -/
theorem defrostHandovers : Obligations.DefrostHandovers := by
  intro s hrun
  refine ⟨fun status value => ⟨fun v h hok hv => ⟨fun hf hterm => ?_, fun hnot => ?_⟩,
    fun h hok => ⟨fun hon => ?_, fun hon => ?_⟩, fun v r cause h hcur hend hok hv hcold => ?_,
    fun h hwarm => ?_, fun h => ?_⟩, fun isOn => ?_, fun before after => ⟨fun h => ?_, fun h => ?_⟩⟩
  · subst hok hv
    exact exec_evAtDfc hrun (Eq.trans (takeEv_of_heat h)
      (Eq.trans (if_pos ⟨hf, hterm⟩) (endHeat_eq .temp h)))
  · subst hok hv
    refine exec_evAtDfc hrun (Eq.trans (takeEv_of_heat h) (if_neg ?_))
    rintro ⟨hf, hterm⟩
    exact hnot.elim (fun ht => Bool.noConfusion (ht.symm.trans hf)) fun hlt => not_lt.2 hterm hlt
  · exact exec_evAtDfc hrun (Eq.trans (takeEv_of_heat h)
      (Eq.trans (evInHeat_of_not_ok hok) (if_neg (Nat.not_le.2 hon))))
  · exact exec_evAtDfc hrun (Eq.trans (takeEv_of_heat h)
      (Eq.trans (evInHeat_of_not_ok hok) (Eq.trans (if_pos hon) (endHeat_eq .fallbackTime h))))
  · exact exec_evAtDfc hrun
      (takeEv_of_cold h (evRestartsFan_iff.2 ⟨hok, v, hv, hcold⟩) hcur hend)
  · refine exec_evAtDfc hrun (takeEv_of_warm h ?_)
    rw [evRestartsFan_iff]
    rintro ⟨hok, v, hv, hcold⟩
    rcases hwarm with hne | ⟨w, hw, hgt⟩
    · exact hne hok
    · obtain rfl := Option.some.inj (hv.symm.trans hw)
      exact not_lt.2 hcold hgt
  · exact exec_evAtDfc hrun (takeEv_of_idle h)
  · change execHeaterOnAtDfc isOn s = _
    refine perform_next hrun ?_
    rw [heaterOn_set_eq]
    simp only [decide_eq_true_eq]
    rfl
  · change execTHandBack before after s = _
    exact perform_next hrun (if_pos h)
  · change execTHandBack before after s = _
    exact perform_next hrun (if_neg h)

/-! ### DRIP, RECOVER and the retry hold (R69 to R71, R73) -/

/-- R69 steps 1 to 3: DRIP ends into RECOVER. -/
def dripEnded (s : State) : State :=
  { s with
    handovers := s.handovers ++
      [.eventTaken (.defrostPhase .recover .drip none), .dfcStateAtImc .recover],
    dfc := { s.dfc with
      state := .recover, dripTimer := none, cmpInhibit := false,
      recoveryTimer := some (s.now + 480000) } }

theorem endDrip_eq {s : State} (h : s.dfc.state = .drip) : endDrip s =
    if evRestartsFan (s.channel .ev).status (s.channel .ev).value then restartFan (dripEnded s)
    else dripEnded s := by
  simp only [endDrip, changeDefrost, dripEnded, h, State.handover, State.raise, State.withHandovers,
    State.withDfc, List.append_assoc]
  rfl

theorem exec_dripExpiry {s t : State} {due : Nat} (hrun : s.running = true)
    (hdue : s.dfc.dripTimer = some due)
    (h : endDrip ((s.taken .dripExpiry).withNow (max s.now due)) = t) :
    exec .dripExpiry s = .next t := by
  change execDripExpiry s = _
  exact perform_expiry hrun hdue h

/-- Settles O43, by the timer that expires; EV decides whether DRIP restarts the fan in the same act. -/
theorem dripRecoverAndHold : Obligations.DripRecoverAndHold := by
  intro s due hrun
  refine ⟨fun h hdue => ⟨fun hev => ?_, fun v hok hv => ⟨fun hwarm => ?_,
    fun r cause hcold hcur hend => ?_⟩⟩, fun r cause hdue hcur hend => ?_, fun hdue => ?_⟩
  · refine exec_dripExpiry hrun hdue (Eq.trans (endDrip_eq h) (if_neg ?_))
    exact fun hr => hev (evRestartsFan_iff.1 hr).1
  · refine exec_dripExpiry hrun hdue (Eq.trans (endDrip_eq h) (if_neg fun hr => ?_))
    obtain ⟨-, w, hw, hcold⟩ := evRestartsFan_iff.1 hr
    obtain rfl := Option.some.inj (hv.symm.trans hw)
    exact not_lt.2 hcold hwarm
  · exact exec_dripExpiry hrun hdue (Eq.trans (endDrip_eq h)
      (Eq.trans (if_pos (evRestartsFan_iff.2 ⟨hok, v, hv, hcold⟩))
        (restartFan_eq (s := dripEnded _) hcur hend)))
  · change execRecoveryExpiry s = _
    exact perform_expiry hrun hdue (restartFan_eq hcur hend)
  · change execRetryHoldExpiry s = _
    exact perform_expiry hrun hdue rfl

end Sys2Proof.Machine
end

section
/-! DSC (Section 6): activation, portions and cancels, WPU's hand-overs, the paddle and the estimate, an
equation for each operation. -/

namespace Sys2Proof.Machine

open Sys2Proof Sys2Proof.Safety

/-! ### Activation (R109) -/

section
variable {s : State} {e : Entry} {rest : List Entry}

theorem activationOpen_iff (hq : s.dsc.queue = e :: rest) : activationOpen s.dsc = true ↔
    e.state = .queued ∧ s.dsc.spacingTimer = none ∧ s.dsc.latch = false ∧
      s.dsc.claimView = .none := by
  have hactive : (activeEntry s.dsc.queue).isNone = true ↔ e.state = .queued := by
    cases h : e.state <;> simp [activeEntry, entryActive, hq, h]
  have hview : decide (s.dsc.claimView = .none) = true ↔ s.dsc.claimView = .none := decide_eq_true_iff
  simp only [activationOpen, Bool.and_eq_true, hactive, hview, Option.isNone_iff_eq_none,
    Bool.not_eq_true', and_assoc]

theorem tooWarm_iff (c : Nat) : tooWarm c e = true ↔ e.chilledOnly = true ∧ c < e.target.getD 0 := by
  simp [tooWarm]

theorem testActivation_of_shut (h : ¬activationOpen s.dsc = true) : testActivation s = s := if_neg h

theorem testActivation_of_open (hq : s.dsc.queue = e :: rest) (h : activationOpen s.dsc = true) :
    testActivation s = if tooWarm s.dsc.c e then completeHead s e .notChilled else claimDispense s e := by
  simp only [testActivation, if_pos h, hq]

theorem claimDispense_eq (hq : s.dsc.queue = e :: rest) : claimDispense s e =
    { s with
      handovers := s.handovers ++ [.claimMade .disp e.target 0 0],
      dsc := { s.dsc with
        claimView := .waiting, queue := { e with state := .activeWait } :: rest } } := by
  simp [claimDispense, hq, onHead, State.handover, State.withHandovers, State.withDsc]

end

/-- Settles O51, by what holds activation back and by the estimate. -/
theorem activationTest : Obligations.ActivationTest := by
  intro s e rest hq
  refine ⟨fun hshut => ?_, fun hopen hwarm => ?_, fun hopen hcold => ?_⟩
  · exact testActivation_of_shut fun h => hshut ((activationOpen_iff hq).1 h)
  · rw [testActivation_of_open hq ((activationOpen_iff hq).2 hopen),
      if_pos ((tooWarm_iff _).2 hwarm), completeHead_eq]
  · rw [testActivation_of_open hq ((activationOpen_iff hq).2 hopen),
      if_neg fun h => hcold ((tooWarm_iff _).1 h), claimDispense_eq hq]

/-! ### Portions (R108) -/

section
variable {s : State} {q : List Entry} {tag options : Byte}

theorem portionRefusal_of_bad (h : tag = 0 ∨ 1 < options.toNat) :
    portionRefusal q tag options = some .badParam := by
  unfold portionRefusal
  split
  · rfl
  · exact if_pos (h.resolve_left ‹_›)

theorem portionRefusal_of_known (ht : tag ≠ 0) (ho : options.toNat ≤ 1)
    (h : ∃ e ∈ q, e.tag = tag) : portionRefusal q tag options = some .duplicateTag := by
  rw [portionRefusal, if_neg ht, if_neg (Nat.not_lt.2 ho), if_pos (by simpa using h)]

theorem portionRefusal_of_full (ht : tag ≠ 0) (ho : options.toNat ≤ 1)
    (h : ¬∃ e ∈ q, e.tag = tag) (hfull : 4 ≤ q.length) :
    portionRefusal q tag options = some .queueFull := by
  rw [portionRefusal, if_neg ht, if_neg (Nat.not_lt.2 ho), if_neg (by simpa using h)]
  exact if_pos hfull

theorem portionRefusal_of_accepted (ht : tag ≠ 0) (ho : options.toNat ≤ 1)
    (h : ¬∃ e ∈ q, e.tag = tag) (hroom : q.length < 4) : portionRefusal q tag options = none := by
  rw [portionRefusal, if_neg ht, if_neg (Nat.not_lt.2 ho), if_neg (by simpa using h)]
  exact if_neg (Nat.not_le.2 hroom)

theorem dispensePortion_of_refused {r : Result} (volume : BitVec 16)
    (h : portionRefusal s.dsc.queue tag options = some r) : dispensePortion s tag volume options =
      answer s 0x60 r [tag, 0, 0, 0, 0, 0, BitVec.ofNat 8 s.dsc.queue.length] := by
  simp only [dispensePortion, h]
  rfl

theorem portionPayload_of_target (n : Nat) : portionPayload q tag (some n) =
    [tag, BitVec.ofNat 8 n, BitVec.ofNat 8 (n / 256)] ++
      (match q.findIdx? fun x => decide (x.tag = tag) with
        | some i => [1, BitVec.ofNat 8 i]
        | none => [0, 0]) ++
      [BitVec.ofNat 8 (entryStateCode ((q.find? fun x => decide (x.tag = tag)).map (·.state))),
        BitVec.ofNat 8 q.length] := by
  simp only [portionPayload, Option.isSome_some, if_true]
  cases q.findIdx? fun x => decide (x.tag = tag) <;> rfl

theorem dispensePortion_of_accepted (volume : BitVec 16)
    (h : portionRefusal s.dsc.queue tag options = none) : dispensePortion s tag volume options =
      (let target := portionTarget volume.toNat
      let u := testActivation (s.withQueue (s.dsc.queue ++
        [freshEntry tag .portion (some target) (decide (options = 1))]))
      answer u 0x60 (if target = volume.toNat then .ok else .clamped)
        (portionPayload u.dsc.queue tag (some target))) := by
  simp only [dispensePortion, h]

end

/-! ### Cancels (R115) -/

section
variable {s : State} {tag : Byte} {e : Entry} {rest before after : List Entry}

theorem dispenseCancel_of_found (ht : tag ≠ 0)
    (h : s.dsc.queue.find? (fun e => decide (e.tag = tag)) = some e) : dispenseCancel s tag =
      answer (if e.state = .queued then removeQueued s e else stopEntry s e .cancelled) 0x61 .ok
        (cancelPayload tag (some e.state)) := by
  simp only [dispenseCancel, if_neg ht, h]

theorem dispenseCancel_of_unknown (ht : tag ≠ 0) (h : ∀ e ∈ s.dsc.queue, e.tag ≠ tag) :
    dispenseCancel s tag = answer s 0x61 .unknownTag [tag, 0] := by
  have hnone : s.dsc.queue.find? (fun e => decide (e.tag = tag)) = none := by
    simpa [List.find?_eq_none] using h
  simp only [dispenseCancel, if_neg ht, hnone]
  rfl

theorem find?_tag_of_head (ht : e.tag = tag) (hq : s.dsc.queue = e :: rest) :
    s.dsc.queue.find? (fun e => decide (e.tag = tag)) = some e := by
  simp [hq, ht]

theorem find?_tag_of_middle (ht : e.tag = tag) (hq : s.dsc.queue = before ++ e :: after)
    (h : ∀ x ∈ before ++ after, x.tag ≠ tag) :
    s.dsc.queue.find? (fun e => decide (e.tag = tag)) = some e := by
  have hbefore : before.find? (fun e => decide (e.tag = tag)) = none := by
    simpa [List.find?_eq_none] using fun x hx => h x (List.mem_append_left _ hx)
  simp [hq, List.find?_append, hbefore, ht]

/-- Only the entry of the tag leaves the queue. -/
theorem removeQueued_eq (hq : s.dsc.queue = before ++ e :: after)
    (h : ∀ x ∈ before ++ after, x.tag ≠ e.tag) : removeQueued s e =
    { s with
      handovers := s.handovers ++ [.eventTaken (.dispenseDone (completionOf e .cancelled))],
      dsc := { s.dsc with queue := before ++ after } } := by
  have hkeep : ∀ q : List Entry, (∀ x ∈ q, x.tag ≠ e.tag) →
      q.filter (fun x => !decide (x.tag = e.tag)) = q := fun q hall =>
    List.filter_eq_self.2 fun x hx => by simp [hall x hx]
  have hb := hkeep before fun x hx => h x (List.mem_append_left _ hx)
  have ha := hkeep after fun x hx => h x (List.mem_append_right _ hx)
  simp [removeQueued, hq, List.filter_append, hb, ha, State.withQueue, State.raise, State.handover,
    State.withHandovers, State.withDsc]

theorem restop_cancelled (hq : s.dsc.queue = e :: rest) : restop s .cancelled =
    { s with dsc := { s.dsc with queue := { e with stopCause := some .cancelled } :: rest } } := by
  simp [restop, hq, onHead, State.withQueue, State.withDsc]

theorem restop_of_ne {cause : Completion} (h : cause ≠ .cancelled) : restop s cause = s := if_neg h

end

theorem exec_dispensePortion {s t : State} {tag options : Byte} {volume : BitVec 16}
    (hrun : s.running = true)
    (h : dispensePortion (s.taken (.dispensePortion tag volume options)) tag volume options = t) :
    exec (.dispensePortion tag volume options) s = .next t := by
  change execDispensePortion tag volume options s = _
  exact perform_next hrun h

theorem exec_dispenseCancel {s t : State} {tag : Byte} (hrun : s.running = true)
    (h : dispenseCancel (s.taken (.dispenseCancel tag)) tag = t) :
    exec (.dispenseCancel tag) s = .next t := by
  change execDispenseCancel tag s = _
  exact perform_next hrun h

/-- Settles O50: a portion by R108's tests in their order, a cancel by the state of the entry found. -/
theorem portionsAndCancels : Obligations.PortionsAndCancels := by
  refine ⟨fun s tag volume options hrun => ⟨fun h => ?_, fun ht ho hknown => ?_,
    fun ht ho hnew hfull => ?_, fun ht ho hnew hroom => ?_⟩, fun s tag hrun => ⟨fun h => ?_,
    fun ht hnone => ?_, fun before e after ht htag hstate hq hrest => ?_,
    fun e rest ht htag hq => ⟨fun hstate => ?_, fun hstate hv hc => ?_, fun hstate hc => ?_⟩⟩⟩
  · exact exec_dispensePortion hrun (dispensePortion_of_refused volume (portionRefusal_of_bad h))
  · exact exec_dispensePortion hrun (dispensePortion_of_refused volume
      (portionRefusal_of_known ht ho hknown))
  · exact exec_dispensePortion hrun (dispensePortion_of_refused volume
      (portionRefusal_of_full ht ho hnew hfull))
  · refine exec_dispensePortion hrun (Eq.trans (dispensePortion_of_accepted volume
      (portionRefusal_of_accepted ht ho hnew hroom)) ?_)
    simp only [portionPayload_of_target]
    rfl
  · exact exec_dispenseCancel hrun (if_pos h)
  · exact exec_dispenseCancel hrun (dispenseCancel_of_unknown ht hnone)
  · refine exec_dispenseCancel hrun
      (Eq.trans (dispenseCancel_of_found ht (find?_tag_of_middle htag hq hrest)) ?_)
    subst htag
    have hremoved := removeQueued_eq (s := s.taken (.dispenseCancel e.tag)) hq hrest
    rw [if_pos hstate, hremoved, hstate]
    rfl
  all_goals
    refine exec_dispenseCancel hrun
      (Eq.trans (dispenseCancel_of_found ht (find?_tag_of_head htag hq)) ?_)
  · rw [if_neg (by simp [hstate]), stopEntry_of_wait _ _ hstate, hstate]
    rfl
  · have hstop := stopEntry_of_flow (s := s.taken (.dispenseCancel tag)) .cancelled hq hstate hv hc
    rw [if_neg (by simp [hstate]), hstop, hstate]
    rfl
  · have hstop := restop_cancelled (s := s.taken (.dispenseCancel tag)) hq
    rw [if_neg (by simp [hstate]), stopEntry_of_stopped _ _ hstate hc, hstop, hstate]
    rfl

/-! ### WPU's hand-overs (R109, R110, R112, R114) -/

section
variable {s : State} {e : Entry} {rest : List Entry}

theorem flowingEntry_cons_of_flow (rest : List Entry) (h : e.state = .activeFlow) :
    flowingEntry (e :: rest) = some e := if_pos h

theorem activeEntry_cons_of_active (rest : List Entry) (h : e.state ≠ .queued) :
    activeEntry (e :: rest) = some e := by
  cases hstate : e.state <;> simp_all [activeEntry, entryActive]

theorem activeEntry_cons_of_queued (rest : List Entry) (h : e.state = .queued) :
    activeEntry (e :: rest) = none := by
  simp [activeEntry, entryActive, h]

theorem takeDispGrant_of_wait (hq : s.dsc.queue = e :: rest) (h : e.state = .activeWait) :
    takeDispGrant s = { s with dsc := { s.dsc with
      queue := { e with state := .activeFlow, valve := some .opened } :: rest,
      claimView := .granted, flowTimer := some (s.now + 1000) } } := by
  have hactive : activeEntry (e :: rest) = some e :=
    activeEntry_cons_of_active rest fun hq => EntryState.noConfusion (h.symm.trans hq)
  simp [takeDispGrant, hq, hactive, h, onHead, State.withDsc]

/-- R110: a grant with no entry in ACTIVE_WAIT is released at once. -/
theorem takeDispGrant_of_no_wait (h : ∀ e rest, s.dsc.queue = e :: rest → e.state ≠ .activeWait) :
    takeDispGrant s = { s with
      handovers := s.handovers ++ [.claimReleased .disp],
      dsc := { s.dsc with claimView := .granted } } := by
  unfold takeDispGrant
  split
  · rename_i e he
    refine if_neg fun hwait => ?_
    cases hq : s.dsc.queue with
    | nil => simp [hq, activeEntry] at he
    | cons a rest =>
      have hae : a = e := by
        simp only [hq, activeEntry] at he
        split at he
        · exact Option.some.inj he
        · cases he
      exact h a rest hq (hae ▸ hwait)
  · rfl

theorem takeDispClosed_of_flow (hq : s.dsc.queue = e :: rest) (h : e.state = .activeFlow) :
    takeDispClosed s = { s with dsc := { s.dsc with
      queue := { e with valve := some .closed } :: rest, flowTimer := none } } := by
  simp [takeDispClosed, hq, flowingEntry_cons_of_flow rest h, onHead, State.withDsc]

theorem takeDispClosed_of_no_flow (h : flowingEntry s.dsc.queue = none) : takeDispClosed s = s := by
  simp only [takeDispClosed, h]

/-- TABLE 6-2: a stop cause stands; otherwise the close cause gives the completion's. -/
theorem completionCause_of_row {stop : Option Completion} {cause : CloseCause} {c : Completion}
    (h : stop = some c ∨ (stop = none ∧ ((cause = .closePoint ∧ c = .done) ∨
      (cause = .noFlow ∧ c = .noFlow) ∨ (cause = .sag ∧ c = .supplySag)))) :
    completionCause stop cause = some c := by
  rcases h with rfl | ⟨rfl, ⟨rfl, rfl⟩ | ⟨rfl, rfl⟩ | ⟨rfl, rfl⟩⟩ <;> rfl

theorem takeDispSettled_of_flow {cause : CloseCause} {c : Completion} (hq : s.dsc.queue = e :: rest)
    (h : e.state = .activeFlow) (hc : completionCause e.stopCause cause = some c) :
    takeDispSettled s cause =
      dispenseCompleted { s with dsc := { s.dsc with claimView := .none } } e c := by
  have hflow : flowingEntry (s.withView .none).dsc.queue = some e :=
    (congrArg flowingEntry hq).trans (flowingEntry_cons_of_flow rest h)
  simp only [takeDispSettled, hflow, hc]
  exact completeHead_eq _ e c

theorem takeDispSettled_of_no_flow (cause : CloseCause) (h : flowingEntry s.dsc.queue = none) :
    takeDispSettled s cause =
      testActivation { s with dsc := { s.dsc with claimView := .none } } := by
  have hflow : flowingEntry (s.withView .none).dsc.queue = none := h
  simp only [takeDispSettled, hflow]
  rfl

end

/-- Settles O52, by the hand-over and the oldest entry. -/
theorem dispenseHandovers : Obligations.DispenseHandovers := by
  intro s hrun
  refine ⟨fun e rest hq h => ?_, fun h => ?_, fun cause => ⟨fun e rest ⟨hq, h⟩ => ?_, fun h => ?_⟩,
    fun cause total => ⟨fun e rest completion ⟨hq, h⟩ hrow => ?_, fun h => ?_⟩, ?_, fun due hdue => ?_⟩
  · change execGrantedAtDsc s = _
    exact perform_next hrun (takeDispGrant_of_wait hq h)
  · change execGrantedAtDsc s = _
    exact perform_next hrun (takeDispGrant_of_no_wait h)
  · change execClosedAtDsc cause s = _
    exact perform_next hrun (takeDispClosed_of_flow hq h)
  · change execClosedAtDsc cause s = _
    exact perform_next hrun (takeDispClosed_of_no_flow (flowingEntry_eq_none h))
  · change execSettledAtDsc cause total s = _
    exact perform_next hrun (takeDispSettled_of_flow hq h (completionCause_of_row hrow))
  · change execSettledAtDsc cause total s = _
    exact perform_next hrun (takeDispSettled_of_no_flow cause (flowingEntry_eq_none h))
  · change execWithdrawnAtDsc s = _
    exact perform_next hrun rfl
  · change execSpacingExpiry s = _
    exact perform_expiry hrun hdue rfl

/-! ### Millilitres, flow seconds and the estimate (R111, R112, R120) -/

section
variable {s : State} {e : Entry} {rest : List Entry}

theorem takeDispMillilitre_of_flow (hq : s.dsc.queue = e :: rest) (h : e.state = .activeFlow) :
    takeDispMillilitre s = { s with dsc := { s.dsc with
      c := s.dsc.c - 1, queue := chargeEntry (decide (s.dsc.c = 0)) e :: rest } } := by
  simp [takeDispMillilitre, hq, flowingEntry_cons_of_flow rest h, onHead, State.withQueue, State.withDsc]

theorem takeDispMillilitre_of_no_flow (h : flowingEntry s.dsc.queue = none) :
    takeDispMillilitre s = { s with dsc := { s.dsc with
      c := s.dsc.c - 1, last := s.dsc.last.map (chargeRecord (decide (s.dsc.c = 0))) } } := by
  simp [takeDispMillilitre, h, State.withDsc]

theorem flowingEntry_of_no_flow (h : ∀ e rest, s.dsc.queue = e :: rest → e.state ≠ .activeFlow) :
    flowingEntry s.dsc.queue = none :=
  flowingEntry_eq_none fun e rest ⟨hq, hflow⟩ => h e rest hq hflow

/-- R112: the flow second as counted, before the limit is tested. -/
def flowSecondCounted (s : State) (e : Entry) (due : Nat) : State :=
  { s with dsc := { s.dsc with
    queue := { e with openSeconds := min 120 (e.openSeconds + 1) } :: s.dsc.queue.tail,
    flowTimer := some (due + 1000) } }

theorem takeFlowSecond_eq (due : Nat) (hq : s.dsc.queue = e :: rest) (h : e.state = .activeFlow)
    (hv : e.valve = some .opened) : takeFlowSecond s due =
      (let e' := { e with openSeconds := min 120 (e.openSeconds + 1) }
      let u := flowSecondCounted s e due
      if openLimit s.dsc.paddleMax e.kind ≤ min 120 (e.openSeconds + 1)
        then stopEntry u e' .runawayLimit else u) := by
  simp [takeFlowSecond, hq, flowingEntry_cons_of_flow rest h, hv, onHead, flowSecondCounted, satAdd,
    State.withDsc]

/-- R113: where a stop cause stands, the limit stops nothing. -/
theorem takeFlowSecond_of_counted (due : Nat) (hq : s.dsc.queue = e :: rest)
    (h : e.state = .activeFlow) (hv : e.valve = some .opened)
    (hn : min 120 (e.openSeconds + 1) < openLimit s.dsc.paddleMax e.kind ∨ e.stopCause ≠ none) :
    takeFlowSecond s due = flowSecondCounted s e due := by
  rw [takeFlowSecond_eq due hq h hv]
  dsimp only
  rcases hn with hlt | hc
  · exact if_neg (Nat.not_le.2 hlt)
  · split
    · exact (stopEntry_of_stopped (flowSecondCounted s e due)
        (e := { e with openSeconds := min 120 (e.openSeconds + 1) }) _ h (Or.inr hc)).trans
          (restop_of_ne nofun)
    · rfl

theorem takeFlowSecond_of_limit (due : Nat) (hq : s.dsc.queue = e :: rest)
    (h : e.state = .activeFlow) (hv : e.valve = some .opened)
    (hn : openLimit s.dsc.paddleMax e.kind ≤ min 120 (e.openSeconds + 1)) (hc : e.stopCause = none) :
    takeFlowSecond s due = flowStopped (flowSecondCounted s e due)
      { e with openSeconds := min 120 (e.openSeconds + 1) } .runawayLimit := by
  rw [takeFlowSecond_eq due hq h hv]
  exact (if_pos hn).trans (stopEntry_of_flow (s := flowSecondCounted s e due)
    (e := { e with openSeconds := min 120 (e.openSeconds + 1) }) _ rfl h hv hc)

end

theorem openLimit_eq (paddleMax : Nat) (k : EntryKind) :
    openLimit paddleMax k = match k with | .portion => 120 | .paddle => paddleMax := by
  cases k <;> rfl

theorem correctEstimate_of_not_ok {wt : ChannelRec} (vTank c : Nat) (h : wt.status ≠ .ok) :
    correctEstimate wt vTank c = c := by
  unfold correctEstimate
  split
  · exact absurd ‹_› h
  · rfl

theorem correctEstimate_of_ok {wt : ChannelRec} {v : Temp} (vTank c : Nat) (h : wt.status = .ok)
    (hv : wt.value = some v) :
    correctEstimate wt vTank c = if v ≤ 40 then vTank else if 100 ≤ v then 0 else c := by
  simp only [correctEstimate, h, hv]
  rfl

/-- The recovery minute leaves the estimate that WT corrects to `c`. -/
theorem exec_recoveryMinute {s : State} {due c : Nat} (hrun : s.running = true)
    (hdue : s.dsc.minuteTimer = some due)
    (h : correctEstimate (s.channel .wt) s.dsc.vTank (min s.dsc.vTank (s.dsc.c + s.dsc.chillRate)) = c) :
    exec .recoveryMinute s = .next { s.taken .recoveryMinute with
      now := max s.now due,
      dsc := { s.dsc with c := c, minuteTimer := some (due + 60000) } } := by
  subst h
  change execRecoveryMinute s = _
  exact perform_expiry hrun hdue rfl

/-- Settles O53, by the oldest entry for the millilitre and the flow second, by WT for the recovery
minute. -/
theorem dispenseCountsAndEstimate : Obligations.DispenseCountsAndEstimate := by
  intro s hrun
  refine ⟨fun e rest hq h => ?_, fun h => ?_,
    fun due e rest hdue hq h hv => ⟨fun hn => ?_, fun hn hc => ?_⟩,
    fun due hdue => ⟨fun hwt => ?_, fun v hwt hvalue => ⟨fun hcold => ?_, fun hlo hhi => ?_,
      fun hwarm => ?_⟩⟩⟩
  · change execMillilitreAtDsc s = _
    exact perform_next hrun (takeDispMillilitre_of_flow hq h)
  · change execMillilitreAtDsc s = _
    exact perform_next hrun (takeDispMillilitre_of_no_flow (flowingEntry_of_no_flow h))
  · change execFlowSecond s = _
    refine perform_expiry hrun hdue (Eq.trans (takeFlowSecond_of_counted due hq h hv
      (by rw [openLimit_eq]; exact hn)) ?_)
    simp only [flowSecondCounted, State.withNow_dsc, State.taken_dsc, hq]
    rfl
  · change execFlowSecond s = _
    refine perform_expiry hrun hdue (Eq.trans (takeFlowSecond_of_limit due hq h hv
      (by rw [openLimit_eq]; exact hn) hc) ?_)
    simp only [flowSecondCounted, State.withNow_dsc, State.taken_dsc, hq]
    rfl
  · exact exec_recoveryMinute hrun hdue (correctEstimate_of_not_ok _ _ hwt)
  all_goals
    refine exec_recoveryMinute hrun hdue ((correctEstimate_of_ok _ _ hwt hvalue).trans ?_)
  · exact if_pos hcold
  · exact (if_neg (not_le.2 hlo)).trans (if_neg (not_le.2 hhi))
  · exact (if_neg (not_le.2 (lt_of_lt_of_le (by decide) hwarm))).trans (if_pos hwarm)

/-! ### The paddle (R117, R118) -/

section
variable {s : State} {e : Entry} {rest : List Entry}

theorem pressPaddle_of_idle (hq : s.dsc.queue = []) (h : s.dsc.claimView = .none) : pressPaddle s =
    { s with
      handovers := s.handovers ++ [.claimMade .disp none 0 0],
      dsc := { s.dsc with
        claimView := .waiting,
        queue := [{ freshEntry 0 .paddle none false with state := .activeWait }] } } := by
  rw [pressPaddle, if_pos ⟨hq, h⟩]
  exact claimDispense_eq (s := s.withQueue [freshEntry 0 .paddle none false]) (rest := []) rfl

/-- R117: a press that finds something in hand sets the latch, and then a portion is stopped. -/
theorem pressPaddle_of_busy (h : ¬(s.dsc.queue = [] ∧ s.dsc.claimView = .none)) : pressPaddle s =
    (let u := { s with dsc := { s.dsc with latch := true } }
    match activeEntry s.dsc.queue with
    | some e => if e.kind = .portion then stopEntry u e .userStop else u
    | none => u) := by
  simp only [pressPaddle, if_neg h]
  rfl

theorem pressPaddle_of_portion (hq : s.dsc.queue = e :: rest) (hk : e.kind = .portion)
    (h : e.state ≠ .queued) :
    pressPaddle s = stopEntry { s with dsc := { s.dsc with latch := true } } e .userStop := by
  rw [pressPaddle_of_busy (by simp [hq])]
  simp only [hq, activeEntry_cons_of_active rest h, if_pos hk]

theorem pressPaddle_of_paddle (hq : s.dsc.queue = e :: rest) (hk : e.kind = .paddle) :
    pressPaddle s = { s with dsc := { s.dsc with latch := true } } := by
  rw [pressPaddle_of_busy (by simp [hq])]
  by_cases h : e.state = .queued
  · simp only [hq, activeEntry_cons_of_queued rest h]
  · simp [hq, activeEntry_cons_of_active rest h, hk]

theorem pressPaddle_of_queued (hq : s.dsc.queue = e :: rest) (h : e.state = .queued) :
    pressPaddle s = { s with dsc := { s.dsc with latch := true } } := by
  rw [pressPaddle_of_busy (by simp [hq])]
  simp only [hq, activeEntry_cons_of_queued rest h]

theorem releasePaddle_of_latch (h : s.dsc.latch = true) :
    releasePaddle s = testActivation { s with dsc := { s.dsc with latch := false } } := if_pos h

theorem releasePaddle_of_none (h : s.dsc.latch = false) (ha : activeEntry s.dsc.queue = none) :
    releasePaddle s = s := by
  simp [releasePaddle, h, ha]

theorem releasePaddle_of_active (h : s.dsc.latch = false) (hq : s.dsc.queue = e :: rest)
    (ha : e.state ≠ .queued) : releasePaddle s =
      match releaseStop e with
      | some cause => stopEntry s e cause
      | none => s := by
  simp only [releasePaddle, h, hq, activeEntry_cons_of_active rest ha]
  rfl

theorem releaseStop_of_wait (hk : e.kind = .paddle) (h : e.state = .activeWait) :
    releaseStop e = some .userStop := by
  simp only [releaseStop, hk, h]

theorem releaseStop_of_flow (hk : e.kind = .paddle) (h : e.state = .activeFlow)
    (hv : e.valve = some .opened) (hc : e.stopCause = none) : releaseStop e = some .done := by
  simp only [releaseStop, hk, h]
  exact if_pos ⟨hv, hc⟩

theorem releaseStop_of_portion (hk : e.kind = .portion) : releaseStop e = none := by
  simp only [releaseStop, hk]

theorem releaseStop_of_stopped (h : e.state = .activeFlow)
    (hc : e.valve = some .closed ∨ e.stopCause ≠ none) : releaseStop e = none := by
  cases hk : e.kind
  · exact releaseStop_of_portion hk
  · simp only [releaseStop, hk, h]
    refine if_neg fun ⟨hv, hn⟩ => hc.elim (fun hclosed => ?_) (· hn)
    exact nomatch hv.symm.trans hclosed

end

theorem exec_paddleAssertion {s t : State} (hrun : s.running = true)
    (h : pressPaddle ((s.taken .paddleAssertion).withPaddle true) = t) :
    exec .paddleAssertion s = .next t := by
  change execPaddleAssertion s = _
  exact perform_next hrun h

theorem exec_paddleRelease {s t : State} (hrun : s.running = true)
    (h : releasePaddle ((s.taken .paddleRelease).withPaddle false) = t) :
    exec .paddleRelease s = .next t := by
  change execPaddleRelease s = _
  exact perform_next hrun h

/-- Settles O54, by the queue, the kind and the state of the oldest entry. -/
theorem paddlePressAndRelease : Obligations.PaddlePressAndRelease := by
  intro s hrun
  refine ⟨fun hq hview => ?_, fun hq hview => ?_,
    fun e rest hq => ⟨fun hk h => ?_, fun hk h hv hc => ?_, fun h => ?_⟩, fun hlatch => ?_,
    fun hlatch hq => ?_,
    fun e rest hlatch hq => ⟨fun hk h => ?_, fun hk h hv hc => ?_, fun h => ?_⟩⟩
  · exact exec_paddleAssertion hrun (pressPaddle_of_idle hq hview)
  · refine exec_paddleAssertion hrun (Eq.trans (pressPaddle_of_busy fun h => hview h.2) ?_)
    simp only [State.withPaddle, State.withDsc_dsc, State.taken_dsc, hq, activeEntry]
    rfl
  · exact exec_paddleAssertion hrun (Eq.trans (pressPaddle_of_portion hq hk (h ▸ nofun))
      (stopEntry_of_wait _ .userStop h))
  · exact exec_paddleAssertion hrun (Eq.trans (pressPaddle_of_portion hq hk (h ▸ nofun))
      (stopEntry_of_flow .userStop hq h hv hc))
  · refine exec_paddleAssertion hrun ?_
    rcases h with hk | hqueued | ⟨hflow, hc⟩
    · exact pressPaddle_of_paddle hq hk
    · exact pressPaddle_of_queued hq hqueued
    · cases hk : e.kind
      · exact Eq.trans (pressPaddle_of_portion hq hk (hflow ▸ nofun))
          (Eq.trans (stopEntry_of_stopped _ .userStop hflow hc) (restop_of_ne nofun))
      · exact pressPaddle_of_paddle hq hk
  · exact exec_paddleRelease hrun (releasePaddle_of_latch hlatch)
  · refine exec_paddleRelease hrun (releasePaddle_of_none hlatch ?_)
    simp only [State.withPaddle, State.withDsc_dsc, State.taken_dsc, hq, activeEntry]
  · refine exec_paddleRelease hrun (Eq.trans (releasePaddle_of_active hlatch hq (h ▸ nofun)) ?_)
    rw [releaseStop_of_wait hk h]
    exact stopEntry_of_wait _ _ h
  · refine exec_paddleRelease hrun (Eq.trans (releasePaddle_of_active hlatch hq (h ▸ nofun)) ?_)
    rw [releaseStop_of_flow hk h hv hc]
    exact stopEntry_of_flow _ hq h hv hc
  · refine exec_paddleRelease hrun ?_
    by_cases hqueued : e.state = .queued
    · exact releasePaddle_of_none hlatch
        ((congrArg activeEntry hq).trans (activeEntry_cons_of_queued rest hqueued))
    · refine Eq.trans (releasePaddle_of_active hlatch hq hqueued) ?_
      have hstop : releaseStop e = none := by
        rcases h with hk | hq' | ⟨hflow, hc⟩
        · exact releaseStop_of_portion hk
        · exact absurd hq' hqueued
        · exact releaseStop_of_stopped hflow hc
      rw [hstop]
      rfl

end Sys2Proof.Machine
end

section
/-! LDM (Section 7): requests, releases and duties, the rail's moves, sag entry and sag exit. -/

namespace Sys2Proof.Machine

open Sys2Proof Sys2Proof.Safety

/-! ### Net changes between ON and not ON (R130, R131) -/

theorem netHandovers_of_same {old new : Loads}
    (h : ∀ x, (getLoad new x).state = (getLoad old x).state) : netHandovers old new = [] := by
  simp [netHandovers, h]

theorem netHandovers_setLoad_of_state {l : Loads} {x : Load} {e : LoadEntry}
    (h : e.state = (getLoad l x).state) : netHandovers l (setLoad l x e) = [] := by
  refine netHandovers_of_same fun y => ?_
  by_cases hy : y = x
  · rw [hy, getLoad_setLoad_self, h]
  · rw [getLoad_setLoad_of_ne _ _ hy]

/-- The state with one entry of the load table replaced, and nothing handed. -/
def entrySet (s : State) (x : Load) (e : LoadEntry) : State :=
  { s with ldm := { s.ldm with loads := setLoad s.ldm.loads x e } }

/-- A table that changes no state hands nothing. -/
theorem loadsSet_of_state {s : State} {x : Load} {e : LoadEntry} (h : e.state = (s.load x).state) :
    loadsSet s (setLoad s.ldm.loads x e) = entrySet s x e := by
  simp only [loadsSet, netHandovers_setLoad_of_state h, List.append_nil]
  rfl

theorem loadsSet_twice (s : State) (l : Loads) : loadsSet (loadsSet s l) l = loadsSet s l := by
  simp only [loadsSet, netHandovers_of_same fun _ => rfl, List.append_nil]

/-! ### Requests (R126, R127) -/

section
variable {s : State} {x : Load}

theorem requestLoad_of_off_normal (duty : Nat) (h : (s.load x).state = .off)
    (hm : s.ldm.monitor = .normal) : requestLoad s x duty =
      loadsSet s (evaluateLoads s.now s.ldm.budget (setLoad s.ldm.loads x
        { s.load x with duty := requestedDuty x (s.load x) duty, state := .waiting })) := by
  rw [requestLoad_eq]
  exact if_pos ⟨h, hm⟩

theorem requestLoad_of_off_sag (duty : Nat) (h : (s.load x).state = .off)
    (hm : s.ldm.monitor = .sag) : requestLoad s x duty =
      loadsSet s (setLoad s.ldm.loads x
        { s.load x with duty := requestedDuty x (s.load x) duty, state := .shed }) := by
  simp only [requestLoad_eq, h, hm]
  rfl

theorem requestLoad_of_not_off (duty : Nat) (h : (s.load x).state ≠ .off) : requestLoad s x duty =
    entrySet s x { s.load x with duty := requestedDuty x (s.load x) duty } := by
  simp only [requestLoad_eq, h, false_and, if_false]
  exact loadsSet_of_state rfl

end

/-! ### Releases, and the requests still in flight before them (R127, log 12) -/

theorem requestInFlight_iff {x : Load} {c : Instr} : requestInFlight x c = true ↔
    ∃ duty, c = .loadRequest x duty ∨ c = .dutyChange x duty := by
  cases c <;> simp [requestInFlight]

theorem loadRelease_not_mem_netHandovers (x : Load) (old new : Loads) :
    Instr.loadRelease x ∉ netHandovers old new := by
  simp only [netHandovers, loadOrder, List.mem_flatMap, not_exists, not_and]
  intro y hy
  split
  · simp
  · cases y <;> simp

/-- What a request in flight hands, when it is taken: no request, no release. -/
theorem takeRequest_hands (s : State) {x : Load} {c : Instr} (hc : requestInFlight x c = true) :
    ∃ handed, (∀ i ∈ handed, requestInFlight x i = false) ∧ .loadRelease x ∉ handed ∧
      ∀ l, takeRequest (s.withHandovers l) c = (takeRequest s c).withHandovers (l ++ handed) := by
  obtain ⟨handed, hfree, htake⟩ := takeRequest_withHandovers s c
  refine ⟨handed, hfree x, ?_, htake⟩
  have hhanded : (takeRequest (s.withHandovers []) c).handovers = handed := by rw [htake]; rfl
  rw [← hhanded]
  obtain ⟨duty, rfl | rfl⟩ := requestInFlight_iff.1 hc
  · simp only [takeRequest, requestLoad_eq]
    split <;> simp [loadsSet, loadRelease_not_mem_netHandovers]
  · simp [takeRequest, changeDuty]

/-- The requests in flight, and what else is, once the release itself is taken. -/
theorem takeInFlight_taken (s : State) (x : Load) : takeInFlight (s.taken (.loadRelease x)) x =
    (s.handovers.filter (requestInFlight x)).foldl takeRequest
      (s.withHandovers ((s.handovers.filter fun i => !requestInFlight x i).erase (.loadRelease x))) := by
  have hpass : (s.handovers.erase (.loadRelease x)).filter (requestInFlight x) =
      s.handovers.filter (requestInFlight x) := by
    rw [← List.erase_filter]
    exact List.erase_of_not_mem fun hmem => by simpa [requestInFlight] using (List.mem_filter.1 hmem).2
  rw [List.erase_filter, ← hpass]
  rfl

/-- A release is the same before and after the oldest request in flight is taken. -/
theorem releaseLoad_takeRequest {s : State} {x : Load} {c : Instr}
    (h : s.handovers.find? (requestInFlight x) = some c) :
    releaseLoad (s.taken (.loadRelease x)) x =
      releaseLoad ((takeRequest (s.taken c) c).taken (.loadRelease x)) x := by
  obtain ⟨hc, before, after, hsplit, hbefore⟩ := List.find?_eq_some_iff_append.1 h
  obtain ⟨handed, hfree, hrel, htake⟩ := takeRequest_hands s hc
  have herase : s.handovers.erase c = before ++ after := by
    have hcb : c ∉ before := fun hmem => by simpa [hc] using hbefore c hmem
    rw [hsplit, List.erase_append_right _ hcb, List.erase_cons_head]
  have hnone : before.filter (requestInFlight x) = [] :=
    List.filter_eq_nil_iff.2 fun i hi => by simpa using hbefore i hi
  have hhanded : handed.filter (requestInFlight x) = [] :=
    List.filter_eq_nil_iff.2 fun i hi => by simp [hfree i hi]
  have hkept : handed.filter (fun i => !requestInFlight x i) = handed :=
    List.filter_eq_self.2 fun i hi => by simp [hfree i hi]
  let others := (before ++ after).filter fun i => !requestInFlight x i
  have hothers : (others ++ handed).erase (.loadRelease x) =
      others.erase (.loadRelease x) ++ handed := by
    rw [List.erase_append]
    split
    · rfl
    · rw [List.erase_of_not_mem hrel, List.erase_of_not_mem ‹_›]
  have hold : takeInFlight (s.taken (.loadRelease x)) x =
      (after.filter (requestInFlight x)).foldl takeRequest
        (takeRequest (s.withHandovers (others.erase (.loadRelease x))) c) := by
    rw [takeInFlight_taken, hsplit]
    simp [others, hnone, hc]
  have hnew : takeInFlight ((takeRequest (s.taken c) c).taken (.loadRelease x)) x =
      (after.filter (requestInFlight x)).foldl takeRequest
        ((takeRequest s c).withHandovers (others.erase (.loadRelease x) ++ handed)) := by
    rw [takeInFlight_taken, State.taken, htake, herase, ← hothers]
    simp [others, hnone, hhanded, hkept, State.withHandovers]
  rw [releaseLoad, releaseLoad, hold, hnew, htake]

theorem exec_loadRequest {s t : State} {x : Load} {duty : Nat} (hrun : s.running = true)
    (h : requestLoad (s.taken (.loadRequest x duty)) x duty = t) :
    exec (.loadRequest x duty) s = .next t := by
  change execLoadRequest x duty s = _
  exact perform_next hrun h

theorem exec_loadRelease {s t : State} {x : Load} (hrun : s.running = true)
    (h : releaseLoad (s.taken (.loadRelease x)) x = t) : exec (.loadRelease x) s = .next t := by
  change execLoadRelease x s = _
  exact perform_next hrun h

theorem exec_dutyChange {s t : State} {x : Load} {duty : Nat} (hrun : s.running = true)
    (h : changeDuty (s.taken (.dutyChange x duty)) x duty = t) :
    exec (.dutyChange x duty) s = .next t := by
  change execDutyChange x duty s = _
  exact perform_next hrun h

theorem exec_requestInFlight {s : State} {x : Load} {c : Instr} (hrun : s.running = true)
    (hc : requestInFlight x c = true) : exec c s = .next (takeRequest (s.taken c) c) := by
  obtain ⟨duty, rfl | rfl⟩ := requestInFlight_iff.1 hc
  · exact exec_loadRequest hrun rfl
  · exact exec_dutyChange hrun rfl

theorem takeRequest_running (s : State) (c : Instr) : (takeRequest s c).running = s.running := by
  simp [State.running]

/-- Log 12: the oldest request in flight is taken before the release. -/
theorem exec_loadRelease_of_inFlight {s t : State} {x : Load} {c : Instr} (hrun : s.running = true)
    (h : s.handovers.find? (requestInFlight x) = some c) (ht : exec c s = .next t) :
    exec (.loadRelease x) s = exec (.loadRelease x) t := by
  rw [exec_requestInFlight hrun (List.find?_some h)] at ht
  cases ht
  have hrun' : (takeRequest (s.taken c) c).running = true := (takeRequest_running _ c).trans hrun
  rw [exec_loadRelease hrun (releaseLoad_takeRequest h), exec_loadRelease hrun' rfl]

section
variable {s : State} {x : Load}

/-- With no request in flight a release acts on the entry alone. -/
theorem exec_loadRelease_of_none {t : State} (hrun : s.running = true)
    (h : s.handovers.find? (requestInFlight x) = none)
    (ht : releaseEntry (s.taken (.loadRelease x)) x = t) : exec (.loadRelease x) s = .next t := by
  refine exec_loadRelease hrun (Eq.trans (releaseLoad_of_none ?_) ht)
  exact List.find?_eq_none.2 fun i hi => List.find?_eq_none.1 h i (List.mem_of_mem_erase hi)

theorem releaseEntry_of_off (h : (s.load x).state = .off) : releaseEntry s x = s := by
  rw [releaseEntry_eq]
  exact if_pos h

theorem releaseEntry_of_shed (h : (s.load x).state = .shed) : releaseEntry s x =
    loadsSet s (setLoad s.ldm.loads x
      { s.load x with state := .off, driven := false, period := none }) := by
  simp [releaseEntry_eq, h]

/-- R128, R136: outside sag the release is followed by an evaluation. -/
theorem releaseEntry_of_wanted (h : (s.load x).state = .waiting ∨ (s.load x).state = .on) :
    releaseEntry s x =
      (let released := setLoad s.ldm.loads x
        { s.load x with state := .off, driven := false, period := none }
      loadsSet (loadsSet s released) (match s.ldm.monitor with
        | .normal => evaluateLoads s.now s.ldm.budget released
        | .sag => released)) := by
  have hoff : (s.load x).state ≠ .off := by rcases h with h | h <;> simp [h]
  have hshed : (s.load x).state ≠ .shed := by rcases h with h | h <;> simp [h]
  rw [releaseEntry_eq]
  cases hm : s.ldm.monitor <;> simp [hoff, hshed, loadsSet_twice]

end

/-! ### Duties (R132, R133) -/

section
variable {e : LoadEntry} {duty : Nat}

theorem applyDuty_of_kept (now : Nat) (h : e.state ≠ .on ∨ (e.period = none ∧ 100 ≤ duty) ∨
    (e.period ≠ none ∧ duty < 100)) : applyDuty now e duty = { e with duty := duty } := by
  rcases h with hoff | ⟨hp, hd⟩ | ⟨hp, hd⟩
  · simp [applyDuty, hoff]
  · simp [applyDuty, hp, Nat.not_lt.2 hd]
  · obtain ⟨p, hp⟩ := Option.ne_none_iff_exists'.1 hp
    simp [applyDuty, hp, hd]

theorem applyDuty_of_start (now : Nat) (h : e.state = .on) (hp : e.period = none) (hd : duty < 100) :
    applyDuty now e duty =
      { e with duty := duty, driven := true, period := some { start := now, duty := duty } } := by
  simp [applyDuty, h, hp, hd]

theorem applyDuty_of_stop (now : Nat) (h : e.state = .on) (hp : e.period ≠ none) (hd : 100 ≤ duty) :
    applyDuty now e duty = { e with duty := duty, driven := true, period := none } := by
  obtain ⟨p, hp⟩ := Option.ne_none_iff_exists'.1 hp
  simp [applyDuty, h, hp, Nat.not_lt.2 hd]

theorem changeDuty_eq (s : State) (x : Load) (duty : Nat) : changeDuty s x duty =
    entrySet s x
      (applyDuty s.now (s.load x) (if x = .moldHtr ∨ x = .rakeMtr then 100 else duty)) := by
  cases x <;> rfl

theorem takeDutyPeriod_eq {s : State} {x : Load} {p : DutyPeriod} (h : (s.load x).period = some p) :
    takeDutyPeriod s x = entrySet s x (stepDuty (s.load x) p) := by
  simp only [takeDutyPeriod, h]
  rfl

end

/-- The duty period timer of a load, due at the point its output is at. -/
theorem exec_dutyPeriodTimer {s : State} {x : Load} {p : DutyPeriod} {e : LoadEntry}
    (hrun : s.running = true) (h : (s.load x).period = some p) (he : stepDuty (s.load x) p = e) :
    exec (.dutyPeriodTimer x) s = .next { s.taken (.dutyPeriodTimer x) with
      now := max s.now (p.start + if (s.load x).driven then p.duty * 100 else 10000),
      ldm := { s.ldm with loads := setLoad s.ldm.loads x e } } := by
  subst he
  change execDutyPeriodTimer x s = _
  have htimer : dutyTimer (s.load x) =
      some (p.start + if (s.load x).driven then p.duty * 100 else 10000) := by
    simp [dutyTimer, h]
  exact perform_expiry hrun htimer (takeDutyPeriod_eq h)

/-- Settles O56: requests and releases by the entry and the monitor, duties by the entry and its
period. -/
theorem loadRequestsAndDuties : Obligations.LoadRequestsAndDuties := by
  refine ⟨fun s x duty hrun => ⟨fun h hm => ?_, fun h hm => ?_, fun h => ?_,
    fun c t h ht => exec_loadRelease_of_inFlight hrun h ht,
    fun hnone => ⟨fun h => ?_, fun h => ?_, fun h => ?_⟩⟩,
    fun s x duty hrun => ⟨fun h => ?_, fun h hp hd => ?_, fun h hp hd => ?_,
    fun p hp => ⟨fun hdriven => ?_, fun hdriven => ?_⟩⟩⟩
  · have hreq := exec_loadRequest hrun (requestLoad_of_off_normal (s := s.taken _) duty h hm)
    simp only [hm]
    cases x <;> exact hreq
  · have hreq := exec_loadRequest hrun (requestLoad_of_off_sag (s := s.taken _) duty h hm)
    cases x <;> exact hreq
  · have hreq := exec_loadRequest hrun (requestLoad_of_not_off (s := s.taken _) duty h)
    cases x <;> exact hreq
  · exact exec_loadRelease_of_none hrun hnone (releaseEntry_of_off h)
  · exact exec_loadRelease_of_none hrun hnone (releaseEntry_of_shed h)
  · exact exec_loadRelease_of_none hrun hnone (Eq.trans (releaseEntry_of_wanted h) rfl)
  · exact exec_dutyChange hrun (Eq.trans (changeDuty_eq _ x duty)
      (congrArg (entrySet _ x) (applyDuty_of_kept _ h)))
  · exact exec_dutyChange hrun (Eq.trans (changeDuty_eq _ x duty)
      (congrArg (entrySet _ x) (applyDuty_of_start _ h hp hd)))
  · exact exec_dutyChange hrun (Eq.trans (changeDuty_eq _ x duty)
      (congrArg (entrySet _ x) (applyDuty_of_stop _ h hp hd)))
  · have hstep := exec_dutyPeriodTimer hrun hp (if_pos hdriven)
    rwa [if_pos hdriven] at hstep
  · have hstep := exec_dutyPeriodTimer hrun hp (if_neg (by simp [hdriven]))
    rwa [if_neg (by simp [hdriven])] at hstep

/-! ### The rail, sag entry and sag exit (R134 to R137) -/

section
variable {s : State}

/-- A part held in reset keeps the level of its rail (log 7). -/
theorem exec_rail_of_held {rail : Nat} {c : Instr} (hrun : s.running = false)
    (hc : c = .railBelowEntry rail ∨ c = .railAboveExit rail ∨ c = .railFallsBack rail) :
    exec c s = .next { s with ldm := { s.ldm with rail := rail } } := by
  have hheld : (s.withRail rail).running = false := hrun
  rcases hc with rfl | rfl | rfl
  · change execRailBelowEntry rail s = _
    exact perform_of_held hheld
  · change execRailAboveExit rail s = _
    exact perform_of_held hheld
  · change execRailFallsBack rail s = _
    exact perform_of_held hheld

/-- R135: the sheds of a sag entry. -/
theorem shedEntry_eq (e : LoadEntry) : shedEntry e =
    if e.state = .on ∨ e.state = .waiting then { e with state := .shed, driven := false, period := none }
    else e := by
  cases h : e.state <;> simp [shedEntry, h, leaveOn]

/-- R137: the shed entries wait again. -/
theorem restoreEntry_eq (e : LoadEntry) :
    restoreEntry e = if e.state = .shed then { e with state := .waiting } else e := by
  cases h : e.state <;> simp [restoreEntry, h]

theorem sagEntry_eq (s : State) : sagEntry s =
    { s with
      handovers := s.handovers ++ netHandovers s.ldm.loads (mapLoads shedEntry s.ldm.loads) ++
        [.wpuSagEntry, .saveRequest, .eventTaken (.supplySag (shedCount s.ldm.loads))],
      ldm := { s.ldm with
        loads := mapLoads shedEntry s.ldm.loads, monitor := .sag, exitTimer := none,
        sagCount := min 255 (s.ldm.sagCount + 1), lastSag := s.now } } := by
  simp [sagEntry, commitLoads_eq, loadsSet, State.raise, State.handover, State.withHandovers,
    State.withLdm, satAdd]

theorem sagExit_eq (s : State) : sagExit s =
    (let restored := evaluateLoads s.now s.ldm.budget (mapLoads restoreEntry s.ldm.loads)
    { s with
      handovers := s.handovers ++ [.wpuSagExit] ++ netHandovers s.ldm.loads restored ++
        [.eventTaken (.supplyRestored (min 65535 ((s.now - s.ldm.lastSag) / 1000)))],
      ldm := { s.ldm with loads := restored, monitor := .normal, exitTimer := none } }) := by
  simp [sagExit, settleLoads, commitLoads_eq, loadsSet, State.raise, State.handover,
    State.withHandovers, State.withLdm, secondsSince]

theorem railBelow_of_normal (h : s.ldm.monitor = .normal) : railBelow s = sagEntry s := by
  simp only [railBelow, h]

theorem railBelow_of_sag (h : s.ldm.monitor = .sag) :
    railBelow s = s.withLdm { s.ldm with exitTimer := none } := by
  simp only [railBelow, h]

theorem railBack_of_normal (h : s.ldm.monitor = .normal) : railBack s = s := by
  simp only [railBack, h]

theorem railBack_of_sag (h : s.ldm.monitor = .sag) :
    railBack s = s.withLdm { s.ldm with exitTimer := none } := by
  simp only [railBack, h]

theorem railAbove_of_normal (h : s.ldm.monitor = .normal) : railAbove s = s := by
  simp only [railAbove, h]

/-- R134: an exit timer that runs goes on. -/
theorem railAbove_of_sag (h : s.ldm.monitor = .sag) : railAbove s =
    s.withLdm { s.ldm with exitTimer := some (s.ldm.exitTimer.getD (s.now + 2000)) } := by
  cases ht : s.ldm.exitTimer with
  | none => simp [railAbove, h, ht]
  | some due =>
    simp only [railAbove, h, ht, State.withLdm, Option.getD_some]
    rw [← ht, ← h]

end

theorem exec_railBelowEntry {s t : State} {rail : Nat} (hrun : s.running = true)
    (h : railBelow ((s.withRail rail).taken (.railBelowEntry rail)) = t) :
    exec (.railBelowEntry rail) s = .next t := by
  change execRailBelowEntry rail s = _
  exact perform_next hrun h

theorem exec_railAboveExit {s t : State} {rail : Nat} (hrun : s.running = true)
    (h : railAbove ((s.withRail rail).taken (.railAboveExit rail)) = t) :
    exec (.railAboveExit rail) s = .next t := by
  change execRailAboveExit rail s = _
  exact perform_next hrun h

theorem exec_railFallsBack {s t : State} {rail : Nat} (hrun : s.running = true)
    (h : railBack ((s.withRail rail).taken (.railFallsBack rail)) = t) :
    exec (.railFallsBack rail) s = .next t := by
  change execRailFallsBack rail s = _
  exact perform_next hrun h

/-- Settles O57, by the rail's move and the monitor. -/
theorem railMovesAndSag : Obligations.RailMovesAndSag := by
  intro s rail
  refine ⟨fun hrun c hc => exec_rail_of_held hrun hc, fun hrun => ⟨fun hm => ?_,
    fun hm => ⟨?_, ?_, ?_⟩, fun hm => ⟨?_, ?_⟩, fun due hdue => ?_⟩⟩
  · refine exec_railBelowEntry hrun (Eq.trans (railBelow_of_normal hm) (Eq.trans (sagEntry_eq _) ?_))
    simp only [show shedEntry = _ from funext shedEntry_eq]
    rfl
  · exact exec_railBelowEntry hrun (railBelow_of_sag hm)
  · exact exec_railFallsBack hrun (railBack_of_sag hm)
  · exact exec_railAboveExit hrun (railAbove_of_sag hm)
  · exact exec_railFallsBack hrun (railBack_of_normal hm)
  · exact exec_railAboveExit hrun (railAbove_of_normal hm)
  · change execExitTimerExpiry s = _
    refine perform_expiry hrun hdue (Eq.trans (sagExit_eq _) ?_)
    simp only [show restoreEntry = _ from funext restoreEntry_eq]
    rfl

end Sys2Proof.Machine
end

section
/-! RPU (Section 8): an event taken, its flag, its record and its class. -/

namespace Sys2Proof.Machine

open Sys2Proof Sys2Proof.Safety

/-! ### The codes of TABLE 9-6, counted in the order of that table -/

theorem channelNumber_eq_idxOf (c : Channel) :
    channelNumber c = [Channel.fz, .ev, .im, .ff, .wt, .am].idxOf c := by
  cases c <;> rfl

theorem inputNumber_eq_idxOf (i : SwitchInput) : inputNumber i =
    [SwitchInput.fzDoor, .ffDoor, .cmpRun, .paddle, .binBeam, .rakeHome].idxOf i := by
  cases i <;> rfl

theorem faultKindCode_eq_idxOf (k : FaultKind) :
    faultKindCode k = 1 + [FaultKind.openWire, .shorted].idxOf k := by
  cases k <;> rfl

theorem edgeDirectionCode_eq (asserted : Bool) :
    edgeDirectionCode asserted = if asserted then 1 else 2 := by
  cases asserted <;> rfl

theorem defrostStateCode_eq_idxOf (d : DefrostState) : defrostStateCode d =
    1 + [DefrostState.watch, .pending, .heat, .drip, .recover].idxOf d := by
  cases d <;> rfl

theorem startReasonCode_eq_idxOf (r : StartReason) :
    startReasonCode r = 1 + [StartReason.threshold, .backstop, .manual].idxOf r := by
  cases r <;> rfl

theorem heatEndCode_eq_idxOf (h : HeatEnd) : heatEndCode h =
    1 + [HeatEnd.temp, .maxTime, .fallbackTime, .starved, .aborted].idxOf h := by
  cases h <;> rfl

theorem iceStateCode_eq_idxOf (i : IceState) : iceStateCode i =
    1 + [IceState.off, .park, .freezing, .heldFull, .harvestHeat, .harvestRake, .rakeRetryWait,
      .fillWait, .filling, .fillPaused, .stalled].idxOf i := by
  cases i <;> rfl

theorem fillEndCode_eq_idxOf (f : Option FillEnd) : fillEndCode f =
    [none, some FillEnd.done, some .noWater, some .timeLimit, some .disabled].idxOf f := by
  rcases f with _ | f
  · rfl
  · cases f <;> rfl

theorem entryKindCode_eq_idxOf (k : EntryKind) :
    entryKindCode k = 1 + [EntryKind.portion, .paddle].idxOf k := by
  cases k <;> rfl

theorem completionCode_eq_idxOf (c : Completion) : completionCode (some c) =
    1 + [Completion.done, .notChilled, .noFlow, .runawayLimit, .supplySag, .userStop,
      .cancelled].idxOf c := by
  cases c <;> rfl

theorem filterStatusCode_eq_idxOf (f : FilterStatus) :
    filterStatusCode f = 1 + [FilterStatus.ok, .due, .expired].idxOf f := by
  cases f <;> rfl

/-- TABLE 8-1, TABLE 9-7: kind, class and body of an event are those of the tables. -/
theorem reported_eq (e : Event) :
    reported e = ⟨eventKind e, alarmClass e, eventBody e⟩ := by
  cases e with
  | sensorFault c k =>
    simp only [eventBody, channelNumber_eq_idxOf, faultKindCode_eq_idxOf]
    rfl
  | sensorRecovered c v =>
    simp only [eventBody, channelNumber_eq_idxOf]
    rfl
  | inputEdge i asserted =>
    simp only [eventBody, inputNumber_eq_idxOf, edgeDirectionCode_eq]
    rfl
  | defrostPhase new prev cause =>
    have hcause : phaseCauseCode cause = match cause with
        | none => 0
        | some (.start r) => startReasonCode r
        | some (.finish h) => 3 + heatEndCode h := rfl
    simp only [eventBody, hcause, defrostStateCode_eq_idxOf, startReasonCode_eq_idxOf,
      heatEndCode_eq_idxOf, ← Nat.add_assoc]
    rcases cause with _ | r | h <;> rfl
  | defrostDone reason cause on wall tAfter =>
    simp only [eventBody, startReasonCode_eq_idxOf, heatEndCode_eq_idxOf]
    rfl
  | iceState new prev =>
    simp only [eventBody, iceStateCode_eq_idxOf]
    rfl
  | harvestDone b =>
    have hflags : packBits [b.forced, b.unknownFill, b.heaterTimeout, b.rakeRetried] =
        b.forced.toNat + 2 * b.unknownFill.toNat + 4 * b.heaterTimeout.toNat
          + 8 * b.rakeRetried.toNat := by
      simp only [packBits]
      omega
    simp only [eventBody, harvestBody, fillEndCode_eq_idxOf, hflags]
    rfl
  | iceStall failed stalls =>
    simp only [eventBody, iceStateCode_eq_idxOf]
    cases failed <;> rfl
  | dispenseDone r =>
    simp only [eventBody, entryKindCode_eq_idxOf, completionCode_eq_idxOf]
    rfl
  | filterStatus status used age =>
    simp only [eventBody, filterStatusCode_eq_idxOf]
    rfl
  | partReset causes =>
    simp only [eventBody, causesByte_eq]
    rfl
  | noWater charged => rfl
  | leak sum => rfl
  | supplySag shed => rfl
  | supplyRestored seconds => rfl
  | queueHigh level alarmDrops statusDrops => rfl

theorem length_le_bytes (k n : Nat) : (le k n).length = k := by
  induction k generalizing n with
  | zero => rfl
  | succ k ih => simp only [le, List.length_cons, ih]

theorem eventBody_length_le (e : Event) : (eventBody e).length ≤ 10 := by
  cases e <;> simp [eventBody, harvestBody, leTemp, leAbsentZero, length_le_bytes]

/-! ### Taking an event (R143, R145, R148, R151, R152) -/

section
variable {s : State} {e : Event}

theorem insertReport_eq (s : State) (e : Event) : insertReport s e =
    (let n := s.rpu.queue.length + 1
    { s with
      handovers := (if n = s.rpu.highLevel ∧ eventKind e ≠ 14
        then [.eventTaken (.queueHigh n s.rpu.alarmDrops s.rpu.statusDrops)] else []) ++ s.handovers,
      rpu := { s.rpu with
        queue := s.rpu.queue ++ [reportOf e],
        attn := s.rpu.attnEnable && decide (s.rpu.attnLevel ≤ n) } }) := by
  have hlen : (s.rpu.queue ++ [reportOf e]).length = s.rpu.queue.length + 1 := List.length_append
  simp only [insertReport, evalAttn, hlen]
  split <;> rfl

/-- R148: an alarm is inserted while a slot is free, any other report while more than the reserve is. -/
theorem offerReport_of_fits (h : if alarmClass e then s.rpu.queue.length + 1 ≤ 32
    else s.rpu.queue.length + s.rpu.reserve < 32) : offerReport s e = insertReport s e := by
  unfold offerReport freeSlots
  cases hc : alarmClass e <;> simp only [hc, if_true, Bool.false_eq_true, if_false] at h ⊢
  · exact if_pos (by simp only [Config.reportSlots_eq]; omega)
  · exact if_pos (by simp only [Config.reportSlots_eq]; omega)

theorem offerReport_of_alarm_dropped (hc : alarmClass e = true) (h : ¬s.rpu.queue.length + 1 ≤ 32) :
    offerReport s e =
      { s with rpu := { s.rpu with alarmDrops := min 255 (s.rpu.alarmDrops + 1) } } := by
  unfold offerReport freeSlots
  rw [if_pos hc]
  exact if_neg (by simp only [Config.reportSlots_eq]; omega)

theorem offerReport_of_status_dropped (hc : alarmClass e = false)
    (h : ¬s.rpu.queue.length + s.rpu.reserve < 32) : offerReport s e =
      { s with rpu := { s.rpu with statusDrops := min 255 (s.rpu.statusDrops + 1) } } := by
  unfold offerReport freeSlots
  rw [if_neg (by simp [hc])]
  exact if_neg (by simp only [Config.reportSlots_eq]; omega)

theorem takeEvent_of_disabled (h : s.rpu.enables.getLsbD (eventKind e) = false) : takeEvent s e =
    { s with rpu := { s.rpu with flags := s.rpu.flags ||| kindBit (eventKind e) } } := by
  simp only [takeEvent, h]
  rfl

theorem takeEvent_of_enabled (h : s.rpu.enables.getLsbD (eventKind e) = true) : takeEvent s e =
    offerReport
      { s with rpu := { s.rpu with flags := s.rpu.flags ||| kindBit (eventKind e) } } e := by
  simp only [takeEvent, h]
  rfl

end

theorem exec_eventTaken {s t : State} {e : Event} (hrun : s.running = true)
    (h : takeEvent (s.taken (.eventTaken e)) e = t) : exec (.eventTaken e) s = .next t := by
  change execEventTaken e s = _
  exact perform_next hrun h

/-- Settles O58, by the enable of the kind and the room its class finds. -/
theorem eventsAreTaken : Obligations.EventsAreTaken := by
  intro s e hrun
  simp only [reported_eq]
  refine ⟨eventBody_length_le e, fun h => ?_, fun h hfits => ?_, fun h hfull hc => ?_,
    fun h hfull hc => ?_⟩
  · exact exec_eventTaken hrun (takeEvent_of_disabled h)
  all_goals refine exec_eventTaken hrun (Eq.trans (takeEvent_of_enabled h) ?_)
  · exact Eq.trans (offerReport_of_fits hfits) (insertReport_eq _ e)
  · simp only [hc, if_true] at hfull
    exact offerReport_of_alarm_dropped hc hfull
  · simp only [hc, Bool.false_eq_true, if_false] at hfull
    exact offerReport_of_status_dropped hc hfull

end Sys2Proof.Machine
end

section
/-! IMC (Sections 5.2, 5.6): the fill decision, and how a fill runs, pauses and ends. -/

namespace Sys2Proof.Machine

open Sys2Proof Sys2Proof.Safety

/-! ### The fill decision (R95) -/

section
variable {s : State} {status : ChannelStatus} {value : Option Temp} {b : BatchRecord}

theorem decideFill_of_other (hw : s.imc.state ≠ .fillWait) (hp : s.imc.state ≠ .fillPaused) :
    decideFill s status value = s :=
  if_neg fun h => h.elim hw hp

theorem decideFill_of_fill (h : s.imc.state = .fillWait ∨ s.imc.state = .fillPaused) :
    decideFill s status value =
      match fillWanted s status value, s.imc.claimView with
      | true, .none =>
        if s.imc.state = .fillPaused ∧ remainingFill s.imc ≤ 5 then freezeFill s .done else claimFill s
      | false, .waiting => withdrawFill s
      | _, _ => s :=
  if_pos h

/-- With a claim that is granted or being withdrawn nothing is decided. -/
theorem decideFill_of_settled (h : s.imc.state = .fillWait ∨ s.imc.state = .fillPaused)
    (hv : s.imc.claimView = .granted ∨ s.imc.claimView = .withdrawing) :
    decideFill s status value = s := by
  rw [decideFill_of_fill h]
  rcases hv with hv | hv <;> cases fillWanted s status value <;> simp only [hv]

theorem decideFill_of_unwanted (h : s.imc.state = .fillWait ∨ s.imc.state = .fillPaused)
    (hv : s.imc.claimView = .none) (hn : fillWanted s status value = false) :
    decideFill s status value = s := by
  simp only [decideFill_of_fill h, hv, hn]

theorem decideFill_of_waiting (h : s.imc.state = .fillWait ∨ s.imc.state = .fillPaused)
    (hv : s.imc.claimView = .waiting) (hw : fillWanted s status value = true) :
    decideFill s status value = s := by
  simp only [decideFill_of_fill h, hv, hw]

theorem decideFill_of_withdraw (h : s.imc.state = .fillWait ∨ s.imc.state = .fillPaused)
    (hv : s.imc.claimView = .waiting) (hn : fillWanted s status value = false) :
    decideFill s status value = withdrawFill s := by
  simp only [decideFill_of_fill h, hv, hn]

theorem decideFill_of_wanted (h : s.imc.state = .fillWait ∨ s.imc.state = .fillPaused)
    (hv : s.imc.claimView = .none) (hw : fillWanted s status value = true) :
    decideFill s status value =
      if s.imc.state = .fillPaused ∧ remainingFill s.imc ≤ 5 then freezeFill s .done
      else claimFill s := by
  simp only [decideFill_of_fill h, hv, hw]

theorem remainingFill_eq (hb : s.imc.batch = some b) :
    remainingFill s.imc = b.fillTarget.getD 0 - b.charged := by
  simp only [remainingFill, hb]

theorem claimFill_of_fillWait (hb : s.imc.batch = some b) (h : s.imc.state = .fillWait) :
    claimFill s = { s with
      handovers := s.handovers ++ [.claimMade .ice (some s.imc.fillTgt) b.charged 0],
      imc := { s.imc with claimView := .waiting } } := by
  simp only [claimFill, hb, h]
  rfl

theorem claimFill_of_fillPaused (hb : s.imc.batch = some b) (h : s.imc.state = .fillPaused) :
    claimFill s = { s with
      handovers := s.handovers ++ [.claimMade .ice b.fillTarget b.charged b.preemptions],
      imc := { s.imc with claimView := .waiting } } := by
  simp only [claimFill, hb, h]
  rfl

end

/-- Settles O47, by IMC's state, its claim view and whether the fill is wanted. -/
theorem fillDecisions : Obligations.FillDecisions := by
  refine ⟨fun s status value b hb => ⟨decideFill_of_other, fun h hv hw => ?_, fun h hv hw hrem => ?_,
    fun h hv hw hrem => ?_, fun h => ⟨fun hv hn => ?_, fun hv hw => ?_, fun hv hn => ?_,
      decideFill_of_settled h⟩⟩, fun s hrun => ⟨fun status value => ?_, fun state => ?_,
    fun due hdue => ?_, ?_, ?_⟩⟩
  · rw [decideFill_of_wanted (.inl h) hv ((fillWanted_iff s status value).2 hw), if_neg (by simp [h]),
      claimFill_of_fillWait hb h]
  · rw [decideFill_of_wanted (.inr h) hv ((fillWanted_iff s status value).2 hw), remainingFill_eq hb,
      if_neg fun hle => Nat.not_lt.2 hle.2 hrem, claimFill_of_fillPaused hb h]
  · rw [decideFill_of_wanted (.inr h) hv ((fillWanted_iff s status value).2 hw), remainingFill_eq hb,
      if_pos ⟨h, hrem⟩, freezeFill_eq]
  · rw [← fillWanted_iff, Bool.not_eq_true] at hn
    rw [decideFill_of_withdraw h hv hn]
    rfl
  · exact decideFill_of_waiting h hv ((fillWanted_iff s status value).2 hw)
  · rw [← fillWanted_iff, Bool.not_eq_true] at hn
    exact decideFill_of_unwanted h hv hn
  · change execFzAtImc status value s = _
    exact perform_next hrun rfl
  · change execDfcStateAtImc state s = _
    exact perform_next hrun rfl
  · change execNoWaterHoldExpiry s = _
    exact perform_expiry hrun hdue rfl
  · change execWithdrawnAtImc s = _
    exact perform_next hrun rfl
  · change execMillilitreAtImc s = _
    exact perform_next hrun rfl

/-! ### How a fill runs and pauses (R96, R97, R99) -/

section
variable {s : State}

theorem enterFilling_eq (s : State) (target : Option Nat) : enterFilling s target =
    iceEntered s .filling { s.imc with
      claimView := .granted, fillTimer := some (s.now + 1000),
      batch := s.imc.batch.map fun b =>
        { b with fillTarget := if b.fillTarget = none then target else b.fillTarget } } := by
  simp only [enterFilling, changeIce_eq, iceEntered, onBatch, State.withImc]
  cases hb : s.imc.batch with
  | none => rfl
  | some b => cases hf : b.fillTarget <;> simp [hf]

theorem takeGrant_of_taken (target : Option Nat)
    (h : s.imc.state = .fillWait ∨ s.imc.state = .fillPaused) (hv : s.imc.claimView = .waiting)
    (hw : fillWanted s (s.channel .fz).status (s.channel .fz).value = true) :
    takeGrant s target = enterFilling s target :=
  if_pos ⟨h, hv, hw⟩

theorem takeGrant_of_released (target : Option Nat)
    (h : ¬((s.imc.state = .fillWait ∨ s.imc.state = .fillPaused) ∧ s.imc.claimView = .waiting ∧
      fillWanted s (s.channel .fz).status (s.channel .fz).value = true)) :
    takeGrant s target = { s with
      handovers := s.handovers ++ [.claimReleased .ice],
      imc := { s.imc with claimView := .granted } } :=
  if_neg h

theorem takeFillSecond_eq (s : State) (due : Nat) : takeFillSecond s due =
    (let n := min 20 (s.imc.fillSeconds + 1)
    { s with
      handovers := s.handovers ++ (if n = 20 then [.claimReleased .ice] else []),
      imc := { s.imc with fillSeconds := n, fillTimer := some (due + 1000) } }) := by
  unfold takeFillSecond
  by_cases h : min 20 (s.imc.fillSeconds + 1) = 20 <;>
    simp [satAdd, h, State.handover, State.withHandovers, State.withImc]

/-- R99: an interrupted fill waits again, and the fill decision is made. -/
theorem pauseFill_eq (s : State) : pauseFill s =
    decideFill (iceEntered s .fillPaused { s.imc with claimView := .waiting, fillTimer := none })
      (s.channel .fz).status (s.channel .fz).value := by
  simp only [pauseFill, changeIce_eq]
  rfl

theorem takeClosed_of_sag (h : s.imc.state = .filling) : takeClosed s .sag = pauseFill s := if_pos h

theorem takeClosed_of_other {cause : CloseCause} (h : s.imc.state = .filling) (hc : cause ≠ .sag) :
    takeClosed s cause = { s with imc := { s.imc with fillTimer := none } } := by
  cases cause <;> first | exact absurd rfl hc | exact if_pos h

theorem takeClosed_of_not_filling (cause : CloseCause) (h : s.imc.state ≠ .filling) :
    takeClosed s cause = s := if_neg h

end

/-- Settles O48, by the hand-over and IMC's state. -/
theorem fillsRunAndPause : Obligations.FillsRunAndPause := by
  intro s hrun
  refine ⟨fun target => ⟨fun ⟨h, hv, hw⟩ => ?_, fun h => ?_⟩, fun due hdue => ?_,
    fun cause => ⟨fun h hc => ?_, fun h hc => ?_, fun h => ?_⟩,
    fun count => ⟨fun h => ?_, fun h => ?_⟩⟩
  · change execGrantedAtImc target s = _
    exact perform_next hrun (Eq.trans (takeGrant_of_taken target h hv ((fillWanted_iff _ _ _).2 hw))
      (enterFilling_eq _ target))
  · change execGrantedAtImc target s = _
    refine perform_next hrun (takeGrant_of_released target fun ⟨hs, hv, hw⟩ => h ⟨hs, hv, ?_⟩)
    exact (fillWanted_iff _ _ _).1 hw
  · change execFillSecond s = _
    exact perform_expiry hrun hdue (takeFillSecond_eq _ due)
  · subst hc
    change execClosedAtImc .sag s = _
    exact perform_next hrun (Eq.trans (takeClosed_of_sag h) (pauseFill_eq _))
  · change execClosedAtImc cause s = _
    exact perform_next hrun (takeClosed_of_other h hc)
  · change execClosedAtImc cause s = _
    exact perform_next hrun (takeClosed_of_not_filling cause h)
  · change execPreemptionCountAtImc count s = _
    exact perform_next hrun (Eq.trans (if_pos h) (pauseFill_eq _))
  · change execPreemptionCountAtImc count s = _
    exact perform_next hrun (if_neg h)

/-! ### How a fill ends (R96, R98 to R100) -/

section
variable {s : State} {b : BatchRecord}

theorem enterFillWait_eq (s : State) : enterFillWait s =
    decideFill (iceEntered s .fillWait s.imc) (s.channel .fz).status (s.channel .fz).value := by
  simp only [enterFillWait, changeIce_eq]
  rfl

theorem endShortFill_of_enough (cause : FillEnd) (hb : s.imc.batch = some b) (h : 20 ≤ b.charged) :
    endShortFill s cause = fillFrozen s cause := by
  rw [← freezeFill_eq]
  simp [endShortFill, hb, h]

/-- R98: a batch abandoned, the next one opened and held back for want of water. -/
theorem endShortFill_of_little (cause : FillEnd) (hb : s.imc.batch = some b) (h : b.charged < 20) :
    endShortFill s cause = decideFill
      (iceEntered { s with handovers := s.handovers ++ [.eventTaken (.noWater b.charged)] } .fillWait
        { s.imc with
          batch := some openedBatch, credit := 0, fillSeconds := 0,
          noWaterTimer := some (s.now + 600000) })
      (s.channel .fz).status (s.channel .fz).value := by
  simp only [endShortFill, hb, Option.map_some, Option.getD_some, Config.noWaterMinimum_eq,
    if_neg (Nat.not_le.2 h), abandonFill, enterFillWait_eq]
  rfl

theorem settleFilling_of_closePoint : settleFilling s .closePoint =
    fillFrozen { s with imc := { s.imc with claimView := .none, fillTimer := none } } .done :=
  freezeFill_eq _ .done

/-- R98: the close causes that end a fill short of its target. -/
theorem settleFilling_of_short {cause : CloseCause} {e : FillEnd}
    (h : (cause = .released ∧ e = .timeLimit) ∨ (cause = .noFlow ∧ e = .noWater)) :
    settleFilling s cause =
      endShortFill { s with imc := { s.imc with claimView := .none, fillTimer := none } } e := by
  rcases h with ⟨rfl, rfl⟩ | ⟨rfl, rfl⟩ <;> rfl

theorem takeSettled_of_filling (cause : CloseCause) (h : s.imc.state = .filling) :
    takeSettled s cause = settleFilling s cause := by
  simp only [takeSettled, h]

theorem takeSettled_of_paused (cause : CloseCause) (h : s.imc.state = .fillPaused) :
    takeSettled s cause = settlePaused s := by
  simp only [takeSettled, h]

theorem takeSettled_of_wait (cause : CloseCause) (h : s.imc.state = .fillWait) :
    takeSettled s cause = decideFillNow (s.withImc { s.imc with claimView := .none }) := by
  simp only [takeSettled, h]

theorem takeSettled_of_other (cause : CloseCause) (hf : s.imc.state ≠ .filling)
    (hp : s.imc.state ≠ .fillPaused) (hw : s.imc.state ≠ .fillWait) :
    takeSettled s cause = { s with imc := { s.imc with claimView := .none } } := by
  cases h : s.imc.state <;> simp_all only [takeSettled, ne_eq, not_true_eq_false] <;> rfl

theorem settlePaused_of_done (hb : s.imc.batch = some b) (hv : s.imc.claimView = .none)
    (h : b.fillTarget.getD 0 - b.charged ≤ 5) : settlePaused s = fillFrozen s .done := by
  simp only [settlePaused, hv, remainingFill_eq hb, freezeFill_eq]
  exact if_pos h

theorem settlePaused_of_more (hb : s.imc.batch = some b) (hv : s.imc.claimView = .none)
    (h : 5 < b.fillTarget.getD 0 - b.charged) : settlePaused s = decideFillNow s := by
  simp only [settlePaused, hv, remainingFill_eq hb]
  exact if_neg (Nat.not_le.2 h)

theorem settlePaused_of_granted (hv : s.imc.claimView = .granted) :
    settlePaused s = decideFillNow (s.withImc { s.imc with claimView := .none }) := by
  simp only [settlePaused, hv]

theorem settlePaused_of_open (hv : s.imc.claimView = .waiting ∨ s.imc.claimView = .withdrawing) :
    settlePaused s = decideFillNow s := by
  rcases hv with hv | hv <;> simp only [settlePaused, hv]

end

theorem exec_settledAtImc {s t : State} {cause : CloseCause} {total : Nat} (hrun : s.running = true)
    (h : takeSettled (s.taken (.settledAtImc cause total)) cause = t) :
    exec (.settledAtImc cause total) s = .next t := by
  change execSettledAtImc cause total s = _
  exact perform_next hrun h

/-- Settles O49, by IMC's state, then by the close cause or the claim view. -/
theorem fillsEnd : Obligations.FillsEnd := by
  intro s b hrun hb
  refine ⟨fun cause total => ⟨fun h => ⟨?_, fun e he => ⟨fun hml => ?_, fun hml => ?_⟩⟩,
    fun h => ⟨fun hv hrem => ?_, fun hv hrem => ?_, fun hv => ?_, fun hv => ?_⟩, fun h => ?_,
    fun hf hp hw => ?_⟩, fun total => ⟨fun h => ?_, fun h => ?_⟩⟩
  · rintro rfl
    exact exec_settledAtImc hrun (Eq.trans (takeSettled_of_filling _ h) settleFilling_of_closePoint)
  · exact exec_settledAtImc hrun (Eq.trans (takeSettled_of_filling _ h)
      (Eq.trans (settleFilling_of_short he) (endShortFill_of_enough e hb hml)))
  · exact exec_settledAtImc hrun (Eq.trans (takeSettled_of_filling _ h)
      (Eq.trans (settleFilling_of_short he) (endShortFill_of_little e hb hml)))
  · exact exec_settledAtImc hrun (Eq.trans (takeSettled_of_paused _ h) (settlePaused_of_done hb hv hrem))
  · exact exec_settledAtImc hrun (Eq.trans (takeSettled_of_paused _ h) (settlePaused_of_more hb hv hrem))
  · exact exec_settledAtImc hrun (Eq.trans (takeSettled_of_paused _ h) (settlePaused_of_granted hv))
  · exact exec_settledAtImc hrun (Eq.trans (takeSettled_of_paused _ h) (settlePaused_of_open hv))
  · exact exec_settledAtImc hrun (takeSettled_of_wait _ h)
  · exact exec_settledAtImc hrun (takeSettled_of_other _ hf hp hw)
  · change execFillEndAtImc total s = _
    exact perform_next hrun (Eq.trans (if_pos h) (freezeFill_eq _ .done))
  · change execFillEndAtImc total s = _
    exact perform_next hrun (if_neg h)

end Sys2Proof.Machine
end

section
/-! IMC (Sections 5.3 to 5.5, 5.7): enabling and disabling, freezing, the harvest, and the rake. -/

namespace Sys2Proof.Machine

open Sys2Proof Sys2Proof.Safety

/-! ### Entries into states (R85, R86, R92) -/

section
variable {s : State}

/-- R85: the rake already home, PARK goes on to FREEZING in the same act. -/
theorem enterPark_of_home (h : s.switchAsserted .rakeHome = true) : enterPark s =
    (let v := iceEntered s .park s.imc
    iceEntered v .freezing { v.imc with creditTimer := some (s.now + 10000) }) := by
  simp only [enterPark, changeIce_eq]
  exact (if_pos h).trans (enterFreezing_eq _)

theorem enterPark_of_away (h : s.switchAsserted .rakeHome = false) : enterPark s =
    (let v := iceEntered s .park { s.imc with rakeOnSeconds := 0, rakeTimer := some (s.now + 1000) }
    { v with handovers := v.handovers ++ [.loadRequest .rakeMtr 100] }) := by
  simp only [enterPark, changeIce_eq]
  exact if_neg (ne_true_of_eq_false h)

theorem enterHarvestRake_eq (s : State) : enterHarvestRake s =
    iceEntered { s with handovers := s.handovers ++ [.loadRequest .rakeMtr 100] } .harvestRake
      { s.imc with
        rakeOnSeconds := 0, rakeTimer := some (s.now + 1000),
        leftHome := !s.switchAsserted .rakeHome } := by
  simp only [enterHarvestRake, changeIce_eq]
  rfl

end

/-! ### Requests (R84, R89, R101) -/

/-- R84, R102: what ICE ENABLE requests for the fill tube, from OFF only. -/
def tubeRequest (x : Imc) : List Instr :=
  if x.state = .off ∧ 0 < x.tubeDuty then [.loadRequest .fillTubeHtr x.tubeDuty] else []

/-- R84: a batch of unknown fill, opened by ICE ENABLE. -/
def batchEnabled (x : Imc) : Imc :=
  { x with
    batch := some { openedBatch with
      unknownFill := true, freezeTarget := some (min 65535 (x.fillTgt * x.kFreeze)) },
    credit := 0, fillSeconds := 0, disablePending := false }

section
variable {s : State}

theorem beginEnable_eq (s : State) : beginEnable s =
    (let u := { s with handovers := s.handovers ++ tubeRequest s.imc, imc := batchEnabled s.imc }
    if s.switchAsserted .rakeHome then enterFreezing u else enterPark u) := by
  by_cases hoff : s.imc.state = .off <;> by_cases hduty : 0 < s.imc.tubeDuty <;>
    simp [beginEnable, tubeRequest, hoff, hduty, requestTube, openBatch, State.handover,
      State.withHandovers, State.withImc, batchEnabled, rakeHomeAsserted, State.switchAsserted,
      freezeTargetOf] <;>
    rfl

theorem enableIce_of_begin (h : s.imc.state = .off ∨ s.imc.state = .stalled) :
    enableIce s = beginEnable s := by
  rcases h with h | h <;> simp only [enableIce, h]

theorem enableIce_of_harvest (h : s.imc.state = .harvestHeat ∨ s.imc.state = .harvestRake) :
    enableIce s = { s with imc := { s.imc with disablePending := false } } := by
  rcases h with h | h <;> simp only [enableIce, h] <;> rfl

theorem enableIce_of_other (hoff : s.imc.state ≠ .off) (hst : s.imc.state ≠ .stalled)
    (hh : s.imc.state ≠ .harvestHeat) (hr : s.imc.state ≠ .harvestRake) : enableIce s = s := by
  cases h : s.imc.state <;> simp_all only [enableIce, ne_eq, not_true_eq_false]

theorem forceHarvest_of_taken (h : s.imc.state = .freezing ∨ s.imc.state = .heldFull) :
    forceHarvest s = answer (harvestHeatEntered { s with imc := { s.imc with
      creditTimer := none, batch := s.imc.batch.map fun b => { b with forced := true } } })
        0x52 .ok [5] := by
  simp only [forceHarvest, if_pos h, enterHarvestHeat_eq]
  rfl

theorem forceHarvest_of_refused (hf : s.imc.state ≠ .freezing) (hh : s.imc.state ≠ .heldFull) :
    forceHarvest s = answerIce s 0x52 .refusedState :=
  if_neg fun h => h.elim hf hh

/-- R101: entering OFF is answered with state 1. -/
theorem answerIce_enterOff (s : State) :
    answerIce (enterOff s) 0x51 .ok = answer (iceOff s) 0x51 .ok [1] := by
  rw [enterOff_eq]
  rfl

theorem disableIce_of_harvest (h : s.imc.state = .harvestHeat ∨ s.imc.state = .harvestRake) :
    disableIce s = { s with imc := { s.imc with disablePending := true } } := by
  rcases h with h | h <;> simp only [disableIce, h] <;> rfl

theorem disableIce_of_idle (h : s.imc.state = .park ∨ s.imc.state = .freezing ∨
    s.imc.state = .heldFull ∨ s.imc.state = .rakeRetryWait ∨ s.imc.state = .stalled) :
    disableIce s = enterOff s := by
  rcases h with h | h | h | h | h <;> simp only [disableIce, h]

theorem disableIce_of_off (h : s.imc.state = .off) : disableIce s = s := by
  simp only [disableIce, h]

theorem disableIce_of_filling (h : s.imc.state = .filling) :
    disableIce s = enterOff (disableFill (s.handover (.claimReleased .ice))) := by
  simp only [disableIce, h]

theorem disableIce_of_paused (h : s.imc.state = .fillPaused) :
    disableIce s = enterOff (disableFill (withdrawIfWaiting s)) := by
  simp only [disableIce, h]

theorem disableIce_of_wait (h : s.imc.state = .fillWait) :
    disableIce s = enterOff (withdrawIfWaiting s) := by
  simp only [disableIce, h]

theorem withdrawIfWaiting_of_waiting (h : s.imc.claimView = .waiting) :
    withdrawIfWaiting s = withdrawFill s := if_pos h

theorem withdrawIfWaiting_of_not_waiting (h : s.imc.claimView ≠ .waiting) :
    withdrawIfWaiting s = s := if_neg h

end

theorem exec_iceEnable {s t u : State} (hrun : s.running = true)
    (hu : enableIce (s.taken .iceEnable) = u) (h : answerIce u 0x50 .ok = t) :
    exec .iceEnable s = .next t := by
  subst hu
  change execIceEnable s = _
  exact perform_next hrun h

theorem exec_iceForceHarvest {s t : State} (hrun : s.running = true)
    (h : forceHarvest (s.taken .iceForceHarvest) = t) : exec .iceForceHarvest s = .next t := by
  change execIceForceHarvest s = _
  exact perform_next hrun h

theorem exec_iceDisable {s t u : State} (hrun : s.running = true)
    (hu : disableIce (s.taken .iceDisable) = u) (h : answerIce u 0x51 .ok = t) :
    exec .iceDisable s = .next t := by
  subst hu
  change execIceDisable s = _
  exact perform_next hrun h

/-- Settles O44, request by request, by IMC's state. -/
theorem iceRequests : Obligations.IceRequests := by
  refine ⟨fun s hrun => ⟨fun h => ⟨fun home => ?_, fun away => ?_⟩, fun h => ?_,
    fun hoff hst hh hr => ?_⟩, fun s hrun => ⟨fun h => ?_, fun hf hh => ?_, fun h => ?_, fun h => ?_,
      fun h => ?_, fun h => ?_, fun h => ⟨fun hv => ?_, fun hv => ?_⟩,
      fun h => ⟨fun hv => ?_, fun hv => ?_⟩⟩⟩
  · exact exec_iceEnable hrun (Eq.trans (enableIce_of_begin h)
      (Eq.trans (beginEnable_eq _) (Eq.trans (if_pos home) (enterFreezing_eq _)))) rfl
  · exact exec_iceEnable hrun (Eq.trans (enableIce_of_begin h) (Eq.trans (beginEnable_eq _)
      (Eq.trans (if_neg (ne_true_of_eq_false away)) (enterPark_of_away away)))) rfl
  · exact exec_iceEnable hrun (enableIce_of_harvest h) rfl
  · exact exec_iceEnable hrun (enableIce_of_other hoff hst hh hr) rfl
  · exact exec_iceForceHarvest hrun (forceHarvest_of_taken h)
  · exact exec_iceForceHarvest hrun (forceHarvest_of_refused hf hh)
  · refine exec_iceDisable hrun (disableIce_of_off h) ?_
    simp only [answerIce, State.taken_imc, h]
    rfl
  · exact exec_iceDisable hrun (disableIce_of_harvest h) rfl
  · exact exec_iceDisable hrun (disableIce_of_idle h) (answerIce_enterOff _)
  · exact exec_iceDisable hrun (disableIce_of_filling h) (answerIce_enterOff _)
  · exact exec_iceDisable hrun (Eq.trans (disableIce_of_paused h)
      (congrArg (enterOff ∘ disableFill) (withdrawIfWaiting_of_waiting hv))) (answerIce_enterOff _)
  · exact exec_iceDisable hrun (Eq.trans (disableIce_of_paused h)
      (congrArg (enterOff ∘ disableFill) (withdrawIfWaiting_of_not_waiting hv))) (answerIce_enterOff _)
  · exact exec_iceDisable hrun (Eq.trans (disableIce_of_wait h)
      (congrArg enterOff (withdrawIfWaiting_of_waiting hv))) (answerIce_enterOff _)
  · exact exec_iceDisable hrun (Eq.trans (disableIce_of_wait h)
      (congrArg enterOff (withdrawIfWaiting_of_not_waiting hv))) (answerIce_enterOff _)

/-! ### Freezing and the harvest point (R86, R88) -/

/-- R88: IMC is at the harvest point: HELD_FULL with the beam blocked, else HARVEST_HEAT. -/
def harvestPointTaken (s : State) : State :=
  if s.switchAsserted .binBeam then iceEntered s .heldFull s.imc else harvestHeatEntered s

section
variable {s : State} {status : ChannelStatus} {value : Option Temp}

theorem creditReached_iff (x : Imc) : creditReached x = true ↔
    ∃ b target, x.batch = some b ∧ b.freezeTarget = some target ∧ target ≤ x.credit := by
  cases hb : x.batch with
  | none => simp [creditReached, hb]
  | some b => cases ht : b.freezeTarget <;> simp [creditReached, hb, ht]

theorem moldReady_iff :
    moldReady status value = true ↔ status ≠ .ok ∨ ∃ v, value = some v ∧ v ≤ -100 := by
  by_cases h : status = .ok
  · subst h
    cases value with
    | none => simp [moldReady]
    | some v =>
      simp only [moldReady]
      rw [decide_eq_true_iff]
      simp
  · cases status <;> first | exact absurd rfl h | (cases value <;> simp [moldReady])

theorem testHarvest_of_reached (hc : creditReached s.imc = true) (hm : moldReady status value = true) :
    testHarvest s status value =
      harvestPointTaken { s with imc := { s.imc with creditTimer := none } } := by
  simp only [testHarvest, hc, hm, Bool.and_self, if_true, changeIce_eq, enterHarvestHeat_eq]
  rfl

theorem testHarvest_of_not (h : ¬creditReached s.imc = true ∨ ¬moldReady status value = true) :
    testHarvest s status value = s := by
  refine if_neg fun hall => ?_
  obtain ⟨hc, hm⟩ := Bool.and_eq_true_iff.1 hall
  exact h.elim (· hc) (· hm)

/-- R86: what a credit interval counts, before the harvest point is tested. -/
def creditCounted (s : State) (due : Nat) : State :=
  { s with imc := { s.imc with
    credit := min 65535 (s.imc.credit + creditStep (s.channel .im).status (s.channel .im).value),
    creditTimer := some (due + 10000),
    batch := s.imc.batch.map fun b =>
      { b with freezeSeconds := min 65535 (b.freezeSeconds + 10) } } }

theorem takeCredit_eq (s : State) (due : Nat) : takeCredit s due =
    testHarvest (creditCounted s due) (s.channel .im).status (s.channel .im).value := rfl

theorem creditReached_creditCounted (s : State) (due : Nat) :
    creditReached (creditCounted s due).imc = true ↔ ∃ b target, s.imc.batch = some b ∧
      b.freezeTarget = some target ∧ target ≤ (creditCounted s due).imc.credit := by
  rw [creditReached_iff]
  cases hb : s.imc.batch <;> simp [creditCounted, hb]

end

theorem exec_creditInterval {s t : State} {due : Nat} (hrun : s.running = true)
    (h : s.imc.state = .freezing) (hdue : s.imc.creditTimer = some due)
    (ht : takeCredit ((s.taken .creditInterval).withNow (max s.now due)) due = t) :
    exec .creditInterval s = .next t := by
  change execCreditInterval s = _
  exact perform_expiry hrun hdue (Eq.trans (if_pos h) ht)

/-! ### The seconds of HARVEST_HEAT (R90, R91) -/

section
variable {s : State} {status : ChannelStatus} {value : Option Temp}

theorem imInHarvest_of_not_ok (h : status ≠ .ok) : imInHarvest s status value =
    if 120 ≤ s.imc.heatOnSeconds then harvestHeatEnded s else s := by
  rw [← endHarvestHeat_eq]
  cases status <;> first | exact absurd rfl h | (cases value <;> rfl)

theorem imInHarvest_of_ok (v : Temp) : imInHarvest s .ok (some v) =
    if 10 ≤ v then harvestHeatEnded s else s := by
  rw [← endHarvestHeat_eq]
  rfl

theorem takeIm_of_freezing (h : s.imc.state = .freezing) :
    takeIm s status value = testHarvest s status value := by
  simp only [takeIm, h]

theorem takeIm_of_harvestHeat (h : s.imc.state = .harvestHeat) :
    takeIm s status value = imInHarvest s status value := by
  simp only [takeIm, h]

theorem takeIm_of_other (hf : s.imc.state ≠ .freezing) (hh : s.imc.state ≠ .harvestHeat) :
    takeIm s status value = s := by
  cases h : s.imc.state <;> simp_all only [takeIm, ne_eq, not_true_eq_false]

/-- R90: what a harvest second counts, before the limits are tested. -/
def harvestSecondCounted (s : State) (due : Nat) : State :=
  { s with imc := { s.imc with
    heatOnSeconds := s.imc.heatOnSeconds + s.imc.moldOn.toNat, harvestTimer := some (due + 1000) } }

theorem takeHarvestSecond_eq (s : State) (due : Nat) : takeHarvestSecond s due =
    (let u := harvestSecondCounted s due
    if 240 ≤ u.imc.heatOnSeconds then
      harvestHeatEnded { u with imc := { u.imc with
        batch := s.imc.batch.map fun b => { b with heaterTimeout := true } } }
    else if 120 ≤ u.imc.heatOnSeconds ∧ (s.channel .im).status ≠ .ok then harvestHeatEnded u
    else u) := by
  have hon : (if s.imc.moldOn then s.imc.heatOnSeconds + 1 else s.imc.heatOnSeconds) =
      s.imc.heatOnSeconds + s.imc.moldOn.toNat := by
    cases s.imc.moldOn <;> rfl
  simp only [takeHarvestSecond, hon, endHarvestHeat_eq]
  rfl

end

theorem exec_imAtImc {s t : State} {status : ChannelStatus} {value : Option Temp}
    (hrun : s.running = true) (h : takeIm (s.taken (.imAtImc status value)) status value = t) :
    exec (.imAtImc status value) s = .next t := by
  change execImAtImc status value s = _
  exact perform_next hrun h

theorem exec_harvestSecond {s t : State} {due : Nat} (hrun : s.running = true)
    (h : s.imc.state = .harvestHeat) (hdue : s.imc.harvestTimer = some due)
    (ht : takeHarvestSecond ((s.taken .harvestSecond).withNow (max s.now due)) due = t) :
    exec .harvestSecond s = .next t := by
  change execHarvestSecond s = _
  exact perform_expiry hrun hdue (Eq.trans (if_pos h) ht)

/-- Settles O45: the credit interval and the hand-overs by the harvest point, the harvest second by its
limits. -/
theorem freezingAndHarvestHeat : Obligations.FreezingAndHarvestHeat := by
  refine ⟨fun s hrun => ⟨fun due h hdue => ⟨fun hc hm => ?_, fun hn => ?_⟩,
    fun status value => ⟨fun h => ⟨fun hc hm => ?_, fun hn => ?_⟩,
      fun h => ⟨fun v hok hv hwarm => ?_, fun v hok hv hcold => ?_, fun hok hon => ?_,
        fun hok hon => ?_⟩, fun hf hh => ?_⟩,
    fun asserted => ⟨fun h ha => ?_, fun h => ?_⟩⟩,
    fun s hrun => ⟨fun due h hdue => ⟨fun hon => ?_, fun hlo hhi hok => ?_, fun hon => ?_⟩,
      fun isOn => ⟨?_, ?_⟩⟩⟩
  · refine exec_creditInterval hrun h hdue (Eq.trans (takeCredit_eq _ due) (Eq.trans
      (testHarvest_of_reached ((creditReached_creditCounted _ due).2 hc) (moldReady_iff.2 hm)) ?_))
    rfl
  · refine exec_creditInterval hrun h hdue (Eq.trans (takeCredit_eq _ due) (Eq.trans
      (testHarvest_of_not ?_) rfl))
    rw [creditReached_creditCounted, moldReady_iff]
    exact hn
  · exact exec_imAtImc hrun (Eq.trans (takeIm_of_freezing h)
      (testHarvest_of_reached ((creditReached_iff _).2 hc) (moldReady_iff.2 hm)))
  · refine exec_imAtImc hrun (Eq.trans (takeIm_of_freezing h) (testHarvest_of_not ?_))
    rw [creditReached_iff, moldReady_iff]
    exact hn
  · subst hok hv
    exact exec_imAtImc hrun (Eq.trans (takeIm_of_harvestHeat h)
      (Eq.trans (imInHarvest_of_ok v) (if_pos hwarm)))
  · subst hok hv
    exact exec_imAtImc hrun (Eq.trans (takeIm_of_harvestHeat h)
      (Eq.trans (imInHarvest_of_ok v) (if_neg (not_le.2 hcold))))
  · exact exec_imAtImc hrun (Eq.trans (takeIm_of_harvestHeat h)
      (Eq.trans (imInHarvest_of_not_ok hok) (if_pos hon)))
  · exact exec_imAtImc hrun (Eq.trans (takeIm_of_harvestHeat h)
      (Eq.trans (imInHarvest_of_not_ok hok) (if_neg (Nat.not_le.2 hon))))
  · exact exec_imAtImc hrun (takeIm_of_other hf hh)
  · change execBinBeamAtImc asserted s = _
    exact perform_next hrun (Eq.trans (if_pos ⟨h, ha⟩) (enterHarvestHeat_eq _))
  · change execBinBeamAtImc asserted s = _
    refine perform_next hrun (if_neg fun ⟨hheld, ha⟩ => h.elim (· hheld) fun ht => ?_)
    exact Bool.noConfusion (ht.symm.trans ha)
  · exact exec_harvestSecond hrun h hdue (Eq.trans (takeHarvestSecond_eq _ due) (if_pos hon))
  · exact exec_harvestSecond hrun h hdue (Eq.trans (takeHarvestSecond_eq _ due)
      (Eq.trans (if_neg (Nat.not_le.2 hhi)) (if_pos ⟨hlo, hok⟩)))
  · refine exec_harvestSecond hrun h hdue (Eq.trans (takeHarvestSecond_eq _ due)
      (Eq.trans (if_neg (Nat.not_le.2 ?_)) (if_neg ?_)))
    · exact hon.elim (fun hlt => hlt.trans (by decide)) fun hand => hand.1
    · exact fun ⟨hle, hok⟩ => hon.elim (fun hlt => Nat.not_le.2 hlt hle) fun hand => hok hand.2
  · change execMoldOnAtImc isOn s = _
    exact perform_next hrun rfl
  · change execRakeOnAtImc isOn s = _
    exact perform_next hrun rfl

end Sys2Proof.Machine
end

section
/-! IMC (Sections 5.3, 5.5): RAKE_HOME, the rake seconds with their limits, and the retry. -/

namespace Sys2Proof.Machine

open Sys2Proof Sys2Proof.Safety

/-! ### RAKE_HOME (R85, R92, R94) -/

/-- The rake is stopped: its second timer off, RAKE_MTR released. -/
def rakeStopped (s : State) : State :=
  releaseLoad { s with imc := { s.imc with rakeTimer := none } } .rakeMtr

/-- R94 steps 1 to 3: a sweep is done, and the batch `b` reported. -/
def sweepDone (s : State) (b : BatchRecord) : State :=
  let u := rakeStopped s
  { u with
    handovers := u.handovers ++ [.eventTaken (.harvestDone b)],
    imc := { u.imc with harvestCount := min 65535 (s.imc.harvestCount + 1) } }

section
variable {s : State}

theorem rakeStopped_imc (s : State) : (rakeStopped s).imc = { s.imc with rakeTimer := none } := by
  simp [rakeStopped]

theorem rakeStopped_scan (s : State) : (rakeStopped s).scan = s.scan := by
  simp [rakeStopped]

theorem rakeStopped_now (s : State) : (rakeStopped s).now = s.now := by
  simp [rakeStopped]

theorem completePark_eq (s : State) : completePark s =
    iceEntered (rakeStopped s) .freezing
      { (rakeStopped s).imc with creditTimer := some (s.now + 10000) } := by
  rw [completePark, enterFreezing_eq]
  change iceEntered (rakeStopped s) .freezing
    { (rakeStopped s).imc with creditTimer := some ((rakeStopped s).now + 10000) } = _
  rw [rakeStopped_now]

theorem completeSweep_eq {b : BatchRecord} (hb : s.imc.batch = some b) : completeSweep s =
    (let done := sweepDone s b
    if s.imc.disablePending then iceOff done
    else decideFill (iceEntered done .fillWait
      { done.imc with batch := some openedBatch, credit := 0, fillSeconds := 0 })
        (s.channel .fz).status (s.channel .fz).value) := by
  have hdone : completeSweep s =
      if (sweepDone s b).imc.disablePending then enterOff (sweepDone s b)
      else enterFillWait (openBatch (sweepDone s b) freshBatch) := by
    have hbatch : (rakeStopped s).imc.batch.getD freshBatch = b := by
      rw [rakeStopped_imc]
      simp [hb]
    have hcount : (rakeStopped s).imc.harvestCount = s.imc.harvestCount := by rw [rakeStopped_imc]
    simp only [sweepDone]
    rw [← hbatch, ← hcount]
    rfl
  have hpending : (sweepDone s b).imc.disablePending = s.imc.disablePending := by
    simp only [sweepDone, rakeStopped_imc]
  have hfz : (sweepDone s b).channel .fz = s.channel .fz := by
    simp only [State.channel, sweepDone, rakeStopped_scan]
  rw [hdone, hpending, enterOff_eq, enterFillWait_eq, ← hfz]
  rfl

theorem takeRakeHome_of_park (asserted : Bool) (h : s.imc.state = .park) :
    takeRakeHome s asserted = if asserted then completePark s else s := by
  simp only [takeRakeHome, h]

theorem takeRakeHome_of_sweep (asserted : Bool) (h : s.imc.state = .harvestRake) :
    takeRakeHome s asserted =
      if asserted then (if s.imc.leftHome then completeSweep s else s)
      else { s with imc := { s.imc with leftHome := true } } := by
  simp only [takeRakeHome, h]
  rfl

theorem takeRakeHome_of_other (asserted : Bool) (hp : s.imc.state ≠ .park)
    (hr : s.imc.state ≠ .harvestRake) : takeRakeHome s asserted = s := by
  cases h : s.imc.state <;> simp_all only [takeRakeHome, ne_eq, not_true_eq_false]

end

theorem exec_rakeHomeAtImc {s t : State} {asserted : Bool} (hrun : s.running = true)
    (h : takeRakeHome (s.taken (.rakeHomeAtImc asserted)) asserted = t) :
    exec (.rakeHomeAtImc asserted) s = .next t := by
  change execRakeHomeAtImc asserted s = _
  exact perform_next hrun h

/-! ### The rake seconds (R85, R92) -/

/-- R85: what a rake second counts, before the limits are tested. -/
def rakeSecondCounted (s : State) (due : Nat) : State :=
  { s with imc := { s.imc with
    rakeOnSeconds := s.imc.rakeOnSeconds + s.imc.rakeOn.toNat, rakeTimer := some (due + 1000) } }

section
variable {s : State}

theorem rakeOnSeconds_counted (s : State) :
    (if s.imc.rakeOn then s.imc.rakeOnSeconds + 1 else s.imc.rakeOnSeconds) =
      s.imc.rakeOnSeconds + s.imc.rakeOn.toNat := by
  cases s.imc.rakeOn <;> rfl

theorem takeRakeSecond_of_park (due : Nat) (h : s.imc.state = .park) : takeRakeSecond s due =
    if 20 ≤ s.imc.rakeOnSeconds + s.imc.rakeOn.toNat then rakeFailed (rakeSecondCounted s due) .park
    else rakeSecondCounted s due := by
  simp only [takeRakeSecond, rakeOnSeconds_counted, State.withImc_imc, h, failRake_eq]
  simp only [rakeSecondCounted, h]
  rfl

theorem takeRakeSecond_of_sweep (due : Nat) (h : s.imc.state = .harvestRake) : takeRakeSecond s due =
    if (3 ≤ s.imc.rakeOnSeconds + s.imc.rakeOn.toNat ∧ s.imc.leftHome = false) ∨
        20 ≤ s.imc.rakeOnSeconds + s.imc.rakeOn.toNat
      then rakeFailed (rakeSecondCounted s due) .harvestRake else rakeSecondCounted s due := by
  simp only [takeRakeSecond, rakeOnSeconds_counted, State.withImc_imc, h, failRake_eq]
  simp only [rakeSecondCounted, h]
  rfl

end

theorem exec_rakeSecond {s t : State} {due : Nat} (hrun : s.running = true)
    (hdue : s.imc.rakeTimer = some due)
    (h : takeRakeSecond ((s.taken .rakeSecond).withNow (max s.now due)) due = t) :
    exec .rakeSecond s = .next t := by
  change execRakeSecond s = _
  exact perform_expiry hrun hdue h

/-! ### The retry (R93) -/

section
variable {s : State}

theorem retryRake_of_park (h : s.imc.state = .rakeRetryWait) (hf : s.imc.failed = some .park) :
    retryRake s = enterPark { s with imc := { s.imc with retryTimer := none } } := by
  simp only [retryRake, State.withImc_imc, h, hf]
  rfl

theorem retryRake_of_sweep (h : s.imc.state = .rakeRetryWait)
    (hf : s.imc.failed = some .harvestRake) :
    retryRake s = enterHarvestRake { s with imc := { s.imc with retryTimer := none } } := by
  simp only [retryRake, State.withImc_imc, h, hf]
  rfl

end

theorem exec_retryTimerExpiry {s t : State} {due : Nat} (hrun : s.running = true)
    (hdue : s.imc.retryTimer = some due)
    (h : retryRake ((s.taken .retryTimerExpiry).withNow (max s.now due)) = t) :
    exec .retryTimerExpiry s = .next t := by
  change execRetryTimerExpiry s = _
  exact perform_expiry hrun hdue h

/-- Settles O46: RAKE_HOME by IMC's state, the rake second by its limits, the retry by the state that
failed. -/
theorem rakeParksAndSweeps : Obligations.RakeParksAndSweeps := by
  intro s hrun
  refine ⟨fun asserted => ⟨fun h ha => ?_, fun h ha => ?_, fun h ha => ?_, fun h ha hleft => ?_,
    fun b h ha hleft hb => ⟨fun hd => ?_, fun hd => ?_⟩, fun hp hr => ?_⟩,
    fun due hdue => ⟨fun h hon => ?_, fun h hon => ?_, fun h hon hleft => ?_, fun h hon => ?_⟩,
    fun due h hdue => ⟨fun hf home => ?_, fun hf away => ?_, fun hf => ?_⟩⟩
  · subst ha
    exact exec_rakeHomeAtImc hrun (Eq.trans (takeRakeHome_of_park _ h) (completePark_eq _))
  · subst ha
    exact exec_rakeHomeAtImc hrun (takeRakeHome_of_park _ h)
  · subst ha
    exact exec_rakeHomeAtImc hrun (takeRakeHome_of_sweep _ h)
  · subst ha
    exact exec_rakeHomeAtImc hrun (Eq.trans (takeRakeHome_of_sweep _ h)
      (if_neg (ne_true_of_eq_false hleft)))
  · subst ha
    exact exec_rakeHomeAtImc hrun (Eq.trans (takeRakeHome_of_sweep _ h) (Eq.trans (if_pos hleft)
      (Eq.trans (completeSweep_eq hb) (if_pos hd))))
  · subst ha
    exact exec_rakeHomeAtImc hrun (Eq.trans (takeRakeHome_of_sweep _ h) (Eq.trans (if_pos hleft)
      (Eq.trans (completeSweep_eq hb) (if_neg (ne_true_of_eq_false hd)))))
  · exact exec_rakeHomeAtImc hrun (takeRakeHome_of_other _ hp hr)
  · exact exec_rakeSecond hrun hdue (Eq.trans (takeRakeSecond_of_park due h)
      (if_neg (Nat.not_le.2 hon)))
  · exact exec_rakeSecond hrun hdue (Eq.trans (takeRakeSecond_of_park due h) (if_pos hon))
  · refine exec_rakeSecond hrun hdue (Eq.trans (takeRakeSecond_of_sweep due h) (if_neg ?_))
    rintro (⟨hle, hnot⟩ | hle)
    · exact hleft.elim (fun hlt => Nat.not_le.2 hlt hle) fun ht => Bool.noConfusion (ht.symm.trans hnot)
    · exact Nat.not_le.2 hon hle
  · exact exec_rakeSecond hrun hdue (Eq.trans (takeRakeSecond_of_sweep due h) (if_pos hon.symm))
  · exact exec_retryTimerExpiry hrun hdue (Eq.trans (retryRake_of_park h hf) (enterPark_of_home home))
  · exact exec_retryTimerExpiry hrun hdue (Eq.trans (retryRake_of_park h hf) (enterPark_of_away away))
  · exact exec_retryTimerExpiry hrun hdue (Eq.trans (retryRake_of_sweep h hf) (enterHarvestRake_eq _))

end Sys2Proof.Machine
end

section
/-! The requests that only answer (R16, R17, R39, R56, R77, R78, R104, R123, R139, R143). -/

namespace Sys2Proof.Machine

open Sys2Proof Sys2Proof.Safety

/-! ### Fields that may be absent (R161) -/

theorem leCountPresence_eq (x : Option Nat) : leCountPresence x =
    match x with
    | some n => 1 :: le 2 (min n 65535)
    | none => 0 :: le 2 (min 0 65535) := by
  cases x <;> rfl

theorem raking_iff (i : IceState) : raking i = true ↔ i = .park ∨ i = .harvestRake := by
  cases i <;> simp [raking]

theorem failedCode_eq (x : Option RakeState) : failedCode x =
    match x with
    | some .park => 2
    | some .harvestRake => 6
    | none => 0 := by
  rcases x with _ | r
  · rfl
  · cases r <;> rfl

theorem budgetInForce_eq (x : Ldm) : budgetInForce x = if x.monitor = .sag then 0 else x.budget := by
  cases h : x.monitor <;> simp [budgetInForce, h]

theorem monitorCode_eq (m : Monitor) : monitorCode m = if m = .sag then 2 else 1 := by
  cases m <;> rfl

/-- Settles O25, request by request: each payload is the list of its fields. -/
theorem statusRequestsOnlyAnswer : Obligations.StatusRequestsOnlyAnswer := by
  refine ⟨by decide, fun s hrun => ⟨?_, ?_, ?_, ?_, ?_, ?_, ?_, ?_, ?_,
    fun index => ⟨fun h => ?_, fun h => ?_⟩⟩⟩
  · change execReadSensors s = _
    refine perform_next hrun (congrArg (answer _ 0x10 .ok) ?_)
    rfl
  · change execReadInputs s = _
    refine perform_next hrun (congrArg (answer _ 0x12 .ok) ?_)
    rfl
  · change execWaterStatus s = _
    refine perform_next hrun (congrArg (answer _ 0x20 .ok) ?_)
    change waterPayload s.now s.wpu = _
    simp only [waterPayload, claimBytes, learningBytes, leCountPresence_eq,
      List.append_assoc]
    cases s.wpu.grant <;> rfl
  · change execFrostStatus s = _
    refine perform_next hrun (congrArg (answer _ 0x30 .ok) ?_)
    change frostPayload s.fest = _
    simp only [frostPayload, minuteBytes, leRecord, List.append_assoc]
    cases s.fest.last <;> rfl
  · change execDefrostStatus s = _
    refine perform_next hrun (congrArg (answer _ 0x42 .ok) ?_)
    change defrostPayload s = _
    simp only [defrostPayload, leCountPresence_eq]
    cases s.dfc.current <;> rfl
  · change execIceStatus s = _
    refine perform_next hrun (congrArg (answer _ 0x53 .ok) ?_)
    change icePayload s.now s.imc = _
    simp only [icePayload, decide_eq_true_eq, leCountPresence_eq, raking_iff, failedCode_eq]
    cases s.imc.batch <;> rfl
  · change execDispenseStatus s = _
    refine perform_next hrun (congrArg (answer _ 0x62 .ok) ?_)
    change dispensePayload s.now s.dsc = _
    simp only [dispensePayload, leCountPresence_eq]
    cases s.dsc.last <;> rfl
  · change execLoadStatus s = _
    refine perform_next hrun (congrArg (answer _ 0x70 .ok) ?_)
    change loadPayload s.now s.ldm = _
    simp only [loadPayload, onTotal_eq_sum, leCountPresence_eq, budgetInForce_eq, monitorCode_eq]
    rfl
  · change execReadEvents s = _
    refine perform_next hrun (congrArg (answer _ 0x78 .ok) ?_)
    rfl
  · change execReadDefrostHistory index s = _
    refine perform_next hrun ((if_pos h).trans (congrArg (answer _ 0x43 .ok) ?_))
    rfl
  · change execReadDefrostHistory index s = _
    refine perform_next hrun ((if_neg (Nat.not_le.2 h)).trans (congrArg (answer _ 0x43 .badParam) ?_))
    rfl

end Sys2Proof.Machine
end

section
/-! Parameters (R160, with R41, R102, R119, R121, R130, R133, R140, R151): SET PARAM and GET PARAM. -/

namespace Sys2Proof.Machine

open Sys2Proof Sys2Proof.Safety

/-! ### The value stored, and the others kept (R160) -/

/-- A value in range is what GET PARAM then answers. -/
theorem paramValue_withParam_self (s : State) {p : Param} {v : Int} (h : paramLo p ≤ v) :
    paramValue (withParam s p v) p = v := by
  have hcast : 0 ≤ paramLo p → ((v.toNat : Nat) : Int) = v := fun h0 => Int.toNat_of_nonneg (h0.trans h)
  cases p with
  | offset ch => simp [paramValue, withParam, State.channel]
  | defTerm => rfl
  | startTemp => rfl
  | rated x =>
    have hrated : paramValue (withParam s (.rated x) v) (.rated x) = (v.toNat : Nat) := by
      simp [paramValue, withParam, State.load]
    exact hrated.trans (hcast (by cases x <;> decide))
  | _ => exact hcast (by decide)

/-- A rated power and the DEF_DUTY are fields of their own in the load table. -/
theorem paramValue_withRated (s : State) (x : Load) (v : Int) {q : Param} (hq : q ≠ .rated x) :
    paramValue (withParam s (.rated x) v) q = paramValue s q := by
  cases q with
  | rated y =>
    have hy : y ≠ x := fun h => hq (h ▸ rfl)
    simp only [paramValue, withParam, State.load, getLoad_setLoad_of_ne _ _ hy]
  | defDuty => cases x <;> rfl
  | _ => rfl

theorem paramValue_withOffset (s : State) (ch : Channel) (v : Int) {q : Param} (hq : q ≠ .offset ch) :
    paramValue (withParam s (.offset ch) v) q = paramValue s q := by
  cases q with
  | offset ch' =>
    have hch : ch' ≠ ch := fun h => hq (h ▸ rfl)
    simp only [paramValue, withParam, State.channel, getChannel_setChannel_of_ne _ _ hch]
  | _ => rfl

theorem paramValue_withDefDuty (s : State) (v : Int) {q : Param} (hq : q ≠ .defDuty) :
    paramValue (withParam s .defDuty v) q = paramValue s q := by
  cases q with
  | rated y => cases y <;> rfl
  | defDuty => exact absurd rfl hq
  | _ => rfl

/-- Each parameter is a field of its own. -/
theorem paramValue_withParam_of_ne (s : State) {p q : Param} (v : Int) (hq : q ≠ p) :
    paramValue (withParam s p v) q = paramValue s q := by
  cases p with
  | offset ch => exact paramValue_withOffset s ch v hq
  | rated x => exact paramValue_withRated s x v hq
  | defDuty => exact paramValue_withDefDuty s v hq
  | _ => cases q <;> first | rfl | exact absurd rfl hq

/-! ### What a stored value does (R41, R119, R130, R133, R151) -/

section
variable {s : State} {v : Int}

theorem storeParam_of_stored {p : Param} (h : actsAtOnce p = false) :
    storeParam s p v = withParam s p v := by
  cases p <;> first | rfl | cases h

theorem storeParam_ageLim : storeParam s .ageLim v =
    (let u := withParam s .ageLim v
    let status := filterStatusOf s.wpu.used s.wpu.capacity s.wpu.age v.toNat
    { u with
      handovers := u.handovers ++ (if status = s.wpu.status then []
        else [.eventTaken (.filterStatus status s.wpu.used s.wpu.age)]),
      wpu := { u.wpu with status := status } }) :=
  reevaluateFilter_eq _

theorem rebalance_eq_of_sag (l : Loads) (hm : s.ldm.monitor = .sag) :
    rebalance s l = loadsSet s l := by
  simp only [rebalance, hm, commitLoads_eq]

theorem rebalance_eq_of_normal (l : Loads) (hm : s.ldm.monitor = .normal) :
    rebalance s l =
      loadsSet s (evaluateLoads s.now s.ldm.budget (returnLoads s.ldm.budget l)) := by
  simp only [rebalance, hm, commitLoads_eq]

theorem storeParam_budget_of_sag (hm : s.ldm.monitor = .sag) :
    storeParam s .budget v = withParam s .budget v := by
  refine Eq.trans (rebalance_eq_of_sag (s := withParam s .budget v) s.ldm.loads hm) ?_
  simp only [loadsSet, withParam, netHandovers_of_same fun _ => rfl, List.append_nil]

theorem storeParam_budget_of_normal (hm : s.ldm.monitor = .normal) :
    storeParam s .budget v = loadsSet (withParam s .budget v)
      (evaluateLoads s.now v.toNat (returnLoads v.toNat s.ldm.loads)) :=
  rebalance_eq_of_normal (s := withParam s .budget v) s.ldm.loads hm

theorem storeParam_rated_of_sag (x : Load) (hm : s.ldm.monitor = .sag) :
    storeParam s (.rated x) v = withParam s (.rated x) v :=
  (rebalance_eq_of_sag _ hm).trans (loadsSet_of_state rfl)

theorem storeParam_rated_of_normal (x : Load) (hm : s.ldm.monitor = .normal) :
    storeParam s (.rated x) v = loadsSet s (evaluateLoads s.now s.ldm.budget
      (returnLoads s.ldm.budget (setLoad s.ldm.loads x { s.load x with rated := v.toNat }))) :=
  rebalance_eq_of_normal _ hm

/-! ### The duties of the trace heaters (R102, R121) -/

section
variable {x : Load} {old new : Nat}

theorem changeTraceDuty_of_zero (h : new = 0) : changeTraceDuty s x old new = releaseLoad s x :=
  if_pos h

theorem changeTraceDuty_of_same (hn : new ≠ 0) (h : old = new) : changeTraceDuty s x old new = s := by
  subst h
  simp [changeTraceDuty, hn]

theorem changeTraceDuty_of_request (hn : new ≠ 0) (h : old = 0) :
    changeTraceDuty s x old new = s.handover (.loadRequest x new) := by
  simp [changeTraceDuty, hn, h]

theorem changeTraceDuty_of_change (hn : new ≠ 0) (ho : old ≠ 0) (h : old ≠ new) :
    changeTraceDuty s x old new = s.handover (.dutyChange x new) := by
  simp [changeTraceDuty, hn, ho, Ne.symm h]

end

theorem storeParam_tubeDuty_of_off (h : s.imc.state = .off) :
    storeParam s .tubeDuty v = withParam s .tubeDuty v := if_pos h

theorem storeParam_tubeDuty_of_on (h : s.imc.state ≠ .off) : storeParam s .tubeDuty v =
    changeTraceDuty (withParam s .tubeDuty v) .fillTubeHtr s.imc.tubeDuty v.toNat := if_neg h

end

/-! ### The requests -/

theorem exec_setParam_of_known {s t : State} {id : Byte} {value : BitVec 32} {p : Param}
    (hrun : s.running = true) (hp : paramOf id.toNat = some p)
    (h : storeParam (s.taken (.setParam id value)) p
      (max (paramLo p) (min (paramHi p) value.toInt)) = t) :
    exec (.setParam id value) s = .next (answer t 0x08
      (if max (paramLo p) (min (paramHi p) value.toInt) = value.toInt then .ok else .clamped)
      (paramPayload id (max (paramLo p) (min (paramHi p) value.toInt)))) := by
  subst h
  change execSetParam id value s = _
  refine perform_next hrun ?_
  simp only [setParam, hp]
  rfl

theorem exec_setParam_of_unknown {s : State} {id : Byte} {value : BitVec 32} (hrun : s.running = true)
    (hp : paramOf id.toNat = none) : exec (.setParam id value) s =
      .next (answer (s.taken (.setParam id value)) 0x08 .badParam (paramPayload id 0)) := by
  change execSetParam id value s = _
  refine perform_next hrun ?_
  simp only [setParam, hp]

theorem exec_getParam_of_known {s : State} {id : Byte} {p : Param} (hrun : s.running = true)
    (hp : paramOf id.toNat = some p) : exec (.getParam id) s =
      .next (answer (s.taken (.getParam id)) 0x09 .ok (paramPayload id (paramValue s p))) := by
  change execGetParam id s = _
  refine perform_next hrun ?_
  simp only [getParam, hp]
  cases p <;> rfl

theorem exec_getParam_of_unknown {s : State} {id : Byte} (hrun : s.running = true)
    (hp : paramOf id.toNat = none) : exec (.getParam id) s =
      .next (answer (s.taken (.getParam id)) 0x09 .badParam (paramPayload id 0)) := by
  change execGetParam id s = _
  refine perform_next hrun ?_
  simp only [getParam, hp]

/-- Settles O24: the tables by their rows, then the stored value by the parameter. -/
theorem parametersStoreAndAct : Obligations.ParametersStoreAndAct := by
  refine ⟨by decide, by decide, fun s id value hrun => ⟨fun hp => ?_, fun p hp => ?_⟩⟩
  · exact ⟨exec_setParam_of_unknown hrun hp, exec_getParam_of_unknown hrun hp⟩
  have hstore := fun t => exec_setParam_of_known (t := t) (value := value) hrun hp
  refine ⟨exec_getParam_of_known hrun hp, ⟨paramValue_withParam_self _ (le_max_left _ _),
    fun q hq => ?_⟩, fun h => ?_, ?_, ?_, ?_, ?_, ?_, ?_, ?_, ?_⟩
  · rw [paramValue_withParam_of_ne _ _ hq]
    cases q <;> rfl
  · exact hstore _ (storeParam_of_stored h)
  · rintro rfl
    exact hstore _ rfl
  · rintro rfl
    exact hstore _ storeParam_ageLim
  · rintro rfl
    exact hstore _ rfl
  · rintro rfl
    exact hstore _ rfl
  · rintro (rfl | ⟨x, rfl⟩)
    · exact ⟨fun hm => hstore _ (storeParam_budget_of_sag hm),
        fun hm => hstore _ (storeParam_budget_of_normal hm)⟩
    · exact ⟨fun hm => hstore _ (storeParam_rated_of_sag x hm),
        fun hm => hstore _ (storeParam_rated_of_normal x hm)⟩
  · rintro rfl
    exact ⟨fun h => hstore _ (congrArg (entrySet _ .defHtr) (applyDuty_of_kept _ h)),
      fun h hp hd => hstore _ (congrArg (entrySet _ .defHtr) (applyDuty_of_start _ h hp hd)),
      fun h hp hd => hstore _ (congrArg (entrySet _ .defHtr) (applyDuty_of_stop _ h hp hd))⟩
  · rintro rfl
    refine ⟨fun h => ?_, fun h => ⟨fun ho hn => ?_, fun ho hn hne => ?_, fun hn => ?_⟩⟩
    · by_cases hoff : s.imc.state = .off
      · exact hstore _ (storeParam_tubeDuty_of_off hoff)
      · obtain ⟨hsame, hn⟩ := h.resolve_left hoff
        exact hstore _ (Eq.trans (storeParam_tubeDuty_of_on hoff) (changeTraceDuty_of_same hn hsame))
    · exact hstore _ (Eq.trans (storeParam_tubeDuty_of_on h) (changeTraceDuty_of_request hn ho))
    · exact hstore _ (Eq.trans (storeParam_tubeDuty_of_on h) (changeTraceDuty_of_change hn ho hne))
    · exact hstore _ (Eq.trans (storeParam_tubeDuty_of_on h) (changeTraceDuty_of_zero hn))
  · rintro rfl
    exact ⟨fun hsame hn => hstore _ (changeTraceDuty_of_same hn hsame),
      fun ho hn => hstore _ (changeTraceDuty_of_request hn ho),
      fun ho hn hne => hstore _ (changeTraceDuty_of_change hn ho hne),
      fun hn => hstore _ (changeTraceDuty_of_zero hn)⟩

end Sys2Proof.Machine
end

section
/-! The resets and start-up (R168 to R170, R172). -/

namespace Sys2Proof.Machine

open Sys2Proof Sys2Proof.Safety

theorem storeAtReset_eq (s : State) : storeAtReset s = tearStore s.lnk s.store := by
  cases h : s.lnk.writing <;> simp [storeAtReset, tearStore, h]

theorem valuesLoaded_eq (x : Store) : valuesLoaded x = loadedValues x := by
  by_cases h : x.check = some (Config.storeCheck x.values) <;>
    simp [valuesLoaded, loadedValues, storeGood, h, clampT]

theorem causesAfter_eq (c : ResetCauses) (x : Store) :
    causesAfter c x = { c with storeDefaulted := !storeGood x } := by
  by_cases h : x.check = some (Config.storeCheck x.values) <;> simp [causesAfter, storeGood, h]

/-- R169: the blocks reset, the record completed, the store loaded and the timers started. -/
def blocksStarted (s : State) (causes : ResetCauses) : State :=
  let u := resetBlocks s causes
  startTimers (loadValues (u.withLnk (.held { causes with storeDefaulted := !storeGood u.store }))
    (loadedValues u.store))

/-- R138: the request of DUCT_HTR finds the part in sag, and nothing changes between ON and not ON. -/
theorem requestLoad_blocksStarted (s : State) (causes : ResetCauses) :
    requestLoad (blocksStarted s causes) .ductHtr 30 = entrySet (blocksStarted s causes) .ductHtr
      { Loads.held.ductHtr with state := .shed } := by
  refine (requestLoad_of_off_sag 30 rfl rfl).trans ?_
  have hnet : netHandovers Loads.held
      (setLoad Loads.held .ductHtr { Loads.held.ductHtr with state := .shed }) = [] := by decide
  have hentry : { (blocksStarted s causes).load .ductHtr with
      duty := requestedDuty .ductHtr ((blocksStarted s causes).load .ductHtr) 30, state := .shed } =
        { Loads.held.ductHtr with state := .shed } := rfl
  have hloads : (blocksStarted s causes).ldm.loads = Loads.held := rfl
  rw [hentry, loadsSet, hloads, hnet, List.append_nil, entrySet, hloads]

/-- R154: PART_RESET is the one report in the queue. -/
theorem takeEvent_partReset {s : State} {x : Timer} (causes : ResetCauses)
    (h : s.rpu = { Rpu.held with ageTimer := x }) : takeEvent s (.partReset causes) =
      { s with rpu := { Rpu.held with
        ageTimer := x, flags := 0x8000, queue := [reportOf (.partReset causes)], attn := true } } := by
  have henabled : s.rpu.enables.getLsbD (eventKind (.partReset causes)) = true := by
    rw [h]
    change Rpu.held.enables.getLsbD 15 = true
    decide
  have hfits : Rpu.held.queue.length + Rpu.held.reserve < 32 := by decide
  rw [takeEvent_of_enabled henabled, offerReport_of_fits (by rw [h]; exact hfits), insertReport_eq]
  simp [h, Rpu.held, eventKind, kindBit]

theorem startUp_resetBlocks (s : State) (causes : ResetCauses) : startUp (resetBlocks s causes) =
    (let u := entrySet (blocksStarted s causes) .ductHtr { Loads.held.ductHtr with state := .shed }
    { u with rpu := { Rpu.held with
      ageTimer := some (s.now + 1000), flags := 0x8000, queue := [reportOf (.partReset u.lnk.causes)],
      attn := true } }) := by
  have hstart : startUp (resetBlocks s causes) =
      takeEvent (requestLoad (blocksStarted s causes) .ductHtr 30)
        (.partReset (blocksStarted s causes).lnk.causes) := rfl
  rw [hstart, requestLoad_blocksStarted]
  exact takeEvent_partReset (x := some (s.now + 1000)) _ rfl

/-- R11: a pin as the part leaves reset. -/
theorem comparePin_held (now : Nat) (i : SwitchInput) (low : Bool) (edge : BitVec 2) :
    comparePin now i (.held low edge) =
      { pinLow := low, asserted := false,
        timer := if low then some (now + if i = .binBeam then 10000 else 50) else none, edge := edge } := by
  cases low
  · rfl
  · cases i <;> rfl

theorem getSwitch_blocksStarted (s : State) (causes : ResetCauses) (i : SwitchInput) :
    getSwitch (blocksStarted s causes).scan.switches i =
      comparePin s.now i (.held (getSwitch s.scan.switches i).pinLow
        (if i = .fzDoor ∨ i = .ffDoor then 3 else 0)) := by
  cases i <;> rfl

theorem startUp_leftReset (s : State) (causes : ResetCauses) :
    LeftReset s (startUp (resetBlocks { s with resetnLow := false, supplyLow := false } causes))
      (causesAfter causes (storeAtReset s)) := by
  unfold LeftReset
  rw [valuesLoaded_eq, causesAfter_eq, storeAtReset_eq, startUp_resetBlocks]
  refine ⟨?_, ?_, ?_, ?_, ?_, fun ch => ?_, fun i => ?_, ?_, ⟨?_, ?_, ?_⟩, ?_, ?_, ?_, ?_, ?_, ?_, ?_, ?_⟩
  · rfl
  · rfl
  · rfl
  · rfl
  · rfl
  · cases ch <;> rfl
  · exact (getSwitch_blocksStarted _ causes i).trans (comparePin_held _ i _ _)
  · rfl
  · rfl
  · rfl
  · rfl
  · rfl
  · rfl
  · rfl
  · rfl
  · rfl
  · rfl
  · simp only [reportOf, eventBody, causesByte_eq]
    rfl
  · rfl

/-! ### The four kinds of reset and the two rises (R170, R172) -/

/-- The part with every block in its state after reset, the store as the reset finds it. -/
def heldPart (s : State) (causes : ResetCauses) : State :=
  { s with
    handovers := [], scan := heldScan s.scan, wpu := .held, fest := .held, dfc := .held,
    imc := .held, dsc := .held, ldm := .held s.ldm.rail s.now, rpu := .held, lnk := .held causes,
    store := storeAtReset s }

theorem resetBlocks_eq (s : State) (causes : ResetCauses) : resetBlocks s causes = heldPart s causes := by
  rw [heldPart, storeAtReset_eq]
  rfl

theorem running_iff (s : State) :
    s.running = true ↔ s.resetnLow = false ∧ s.supplyLow = false := by
  simp [State.running]

/-- A reset that leaves neither line low starts the part. -/
theorem restart_leftReset {s u : State} {causes : ResetCauses}
    (hu : resetBlocks u causes =
      resetBlocks { s with resetnLow := false, supplyLow := false } causes) :
    (restart u causes).pending = s.pending ∧
      LeftReset s (restart u causes) (causesAfter causes (storeAtReset s)) := by
  have hrestart : restart u causes =
      startUp (resetBlocks { s with resetnLow := false, supplyLow := false } causes) := by
    rw [restart, hu]
    rfl
  rw [hrestart]
  exact ⟨by simp, startUp_leftReset s causes⟩

theorem lines_of_low {s : State} (hr : s.resetnLow = false) (hs : s.supplyLow = false) :
    { s with resetnLow := false, supplyLow := false } = s := by
  cases s
  cases hr
  cases hs
  rfl

section
variable {s : State}

theorem exec_resetnRise_of_low (h : s.resetnLow = true) :
    exec .resetnRise s = .next (restart (s.withResetnLow false) s.lnk.causes) := by
  change execResetnRise s = _
  simp only [execResetnRise, if_pos h]

theorem exec_supplyRise_of_low (h : s.supplyLow = true) :
    exec .supplyRiseAboveResetLevel s = .next (restart (s.withSupplyLow false) s.lnk.causes) := by
  change execSupplyRiseAboveResetLevel s = _
  simp only [execSupplyRiseAboveResetLevel, if_pos h]

theorem exec_supplyLow_of_running (h : s.running = true) : exec .supplyLow s =
    .next (restart (s.withSupplyLow true) { s.lnk.causes with supplyLow := true }) := by
  change execSupplyLow s = _
  simp only [execSupplyLow, supplyFalls, if_pos h]

/-- R172: the end of a RESET PART reply. -/
theorem exec_replyEnd_of_reset {due : Nat} (hrun : s.running = true)
    (hdue : s.lnk.replyTimer = some due) (h : s.lnk.resetAtReplyEnd = true) :
    exec .replyEnd s = .next (linkReset (((s.taken .replyEnd).withNow (max s.now due)).withLnk
      { s.lnk with
        replyInProgress := false, reply := none, replyTimer := none, resetAtReplyEnd := false })) := by
  change execReplyEnd s = _
  exact perform_expiry hrun hdue (if_pos h)

end

/-- R169: a command that resets the part and leaves neither line low. -/
theorem exec_leftReset {s at' u : State} {c : Instr} {causes : ResetCauses}
    (hexec : exec c at' = .next (restart u causes))
    (hu : resetBlocks u causes =
      resetBlocks { s with resetnLow := false, supplyLow := false } causes) :
    ∃ t, exec c at' = .next t ∧ t.pending = s.pending ∧
      LeftReset s t (causesAfter causes (storeAtReset s)) :=
  ⟨_, hexec, restart_leftReset hu⟩

section
variable (s : State) (causes : ResetCauses)

theorem restart_withSupplyLow_true : restart (s.withSupplyLow true) causes =
    (heldPart s causes).withSupplyLow true := by
  rw [← resetBlocks_eq]
  exact restart_of_held causes (by simp [State.running])

theorem restart_withResetnLow_true : restart (s.withResetnLow true) causes =
    (heldPart s causes).withResetnLow true := by
  rw [← resetBlocks_eq]
  exact restart_of_held causes (by simp [State.running])

/-- R170: the supply rises while RESETN is low. -/
theorem restart_withSupplyLow_false (hr : s.resetnLow = true) :
    restart (s.withSupplyLow false) causes = (heldPart s causes).withSupplyLow false := by
  rw [← resetBlocks_eq]
  exact restart_of_held causes (by simp [State.running, hr])

/-- R170: RESETN rises while the supply is low. -/
theorem restart_withResetnLow_false (hs : s.supplyLow = true) :
    restart (s.withResetnLow false) causes = (heldPart s causes).withResetnLow false := by
  rw [← resetBlocks_eq]
  exact restart_of_held causes (by simp [State.running, hs])

end

section
variable {s : State} (causes : ResetCauses)

theorem resetBlocks_supply_risen (hr : s.resetnLow = false) :
    resetBlocks (s.withSupplyLow false) causes =
      resetBlocks { s with resetnLow := false, supplyLow := false } causes := by
  rw [← hr]
  rfl

theorem resetBlocks_resetn_risen (hs : s.supplyLow = false) :
    resetBlocks (s.withResetnLow false) causes =
      resetBlocks { s with resetnLow := false, supplyLow := false } causes := by
  rw [← hs]
  rfl

end

/-- R170: the supply rises again after a SUPPLY_LOW. -/
theorem exec_supplyRise_after_low {s : State} {causes : ResetCauses} (hr : s.resetnLow = false) :
    ∃ t, exec .supplyRiseAboveResetLevel ((heldPart s causes).withSupplyLow true) = .next t ∧
      t.pending = s.pending ∧ LeftReset s t (causesAfter causes (storeAtReset s)) :=
  resetBlocks_eq s causes ▸ exec_leftReset (exec_supplyRise_of_low rfl)
    ((resetBlocks_twice (s.withSupplyLow false) causes causes).trans
      (resetBlocks_supply_risen causes hr))

/-- R170: RESETN rises again after a RESET_LINE. -/
theorem exec_resetnRise_after_low {s : State} {causes : ResetCauses} (hs : s.supplyLow = false) :
    ∃ t, exec .resetnRise ((heldPart s causes).withResetnLow true) = .next t ∧
      t.pending = s.pending ∧ LeftReset s t (causesAfter causes (storeAtReset s)) :=
  resetBlocks_eq s causes ▸ exec_leftReset (exec_resetnRise_of_low rfl)
    ((resetBlocks_twice (s.withResetnLow false) causes causes).trans
      (resetBlocks_resetn_risen causes hs))

/-- Settles O17, by the reset or the rise and the lines it leaves low. -/
theorem resetsStartThePart : Obligations.ResetsStartThePart := by
  intro s
  refine ⟨fun hr => exec_leftReset rfl (resetBlocks_supply_risen _ hr), fun hr => ?powerOn,
    fun hrun => ⟨(heldPart s { s.lnk.causes with supplyLow := true }).withSupplyLow true, rfl,
      ?supplyLow, ?supplyBack⟩, fun hrun => ?stillLow,
    ⟨(heldPart s { s.lnk.causes with resetLine := true }).withResetnLow true, rfl,
      ?resetLine, fun hs => exec_resetnRise_after_low hs⟩, fun hr => ?noResetn,
    fun hr hs => exec_leftReset (exec_resetnRise_of_low hr) (resetBlocks_resetn_risen _ hs),
    fun hr hs => ?supplyHolds, fun hs => ?noSupply,
    fun hs hr => exec_leftReset (exec_supplyRise_of_low hs) (resetBlocks_supply_risen _ hr),
    fun hs hr => ?resetnHolds, fun due hrun hdue hreset => ?replyEnd⟩
  case powerOn => exact congrArg Host.Outcome.next (restart_withSupplyLow_false s _ hr)
  case supplyLow =>
    exact (exec_supplyLow_of_running hrun).trans
      (congrArg Host.Outcome.next (restart_withSupplyLow_true s _))
  case supplyBack => exact exec_supplyRise_after_low ((running_iff s).mp hrun).1
  case stillLow =>
    change Host.Outcome.next (supplyFalls s) = _
    rw [supplyFalls, hrun]
    rfl
  case resetLine => exact congrArg Host.Outcome.next (restart_withResetnLow_true s _)
  case noResetn =>
    change execResetnRise s = _
    rw [execResetnRise, hr]
    rfl
  case supplyHolds =>
    exact (exec_resetnRise_of_low hr).trans
      (congrArg Host.Outcome.next (restart_withResetnLow_false s _ hs))
  case noSupply =>
    change execSupplyRiseAboveResetLevel s = _
    rw [execSupplyRiseAboveResetLevel, hs]
    rfl
  case resetnHolds =>
    exact (exec_supplyRise_of_low hs).trans
      (congrArg Host.Outcome.next (restart_withSupplyLow_false s _ hr))
  case replyEnd =>
    obtain ⟨hr, hs⟩ := (running_iff s).mp hrun
    exact exec_leftReset (s := { s with now := max s.now due })
      (exec_replyEnd_of_reset hrun hdue hreset)
      (congrArg (resetBlocks · _) (lines_of_low (s := { s with now := max s.now due }) hr hs)).symm

end Sys2Proof.Machine
end
